-- ==== Sys2Proof/Word.lean ====
section
/-!
DEFINITION. The word and byte types of AU-CRYPT, and the four-element tuple its register files,
AES columns and Blocks are made of (00_scope.md R9 to R12, 10_state.md R21).
-/

namespace Sys2Proof

/-- An 8-bit value (00_scope.md R10). -/
abbrev Byte := BitVec 8

/-- A 32-bit unsigned Word; `+` and `-` wrap modulo 2^32 (00_scope.md R12). -/
abbrev Word := BitVec 32

/-- Four things of one kind, indexed 0 to 3: the words of a register file `F[0..3]`, the bytes of a
word lane by lane, the columns of a Block. -/
@[ext] structure Quad (α : Type) where
  /-- Element 0. -/
  e0 : α
  /-- Element 1. -/
  e1 : α
  /-- Element 2. -/
  e2 : α
  /-- Element 3. -/
  e3 : α
  deriving DecidableEq, Repr

namespace Quad

variable {α β γ : Type}

/-- Element `i`. -/
def get (q : Quad α) : Fin 4 → α
  | 0 => q.e0
  | 1 => q.e1
  | 2 => q.e2
  | 3 => q.e3

/-- The tuple with element `i` replaced. -/
def set (q : Quad α) (i : Fin 4) (a : α) : Quad α :=
  match i with
  | 0 => { q with e0 := a }
  | 1 => { q with e1 := a }
  | 2 => { q with e2 := a }
  | 3 => { q with e3 := a }

/-- The tuple whose element `i` is `f i`. -/
def build (f : Fin 4 → α) : Quad α := ⟨f 0, f 1, f 2, f 3⟩

/-- `f` on each element. -/
def map (f : α → β) (q : Quad α) : Quad β := ⟨f q.e0, f q.e1, f q.e2, f q.e3⟩

/-- `f` on the elements of two tuples, position by position. -/
def zipWith (f : α → β → γ) (p : Quad α) (q : Quad β) : Quad γ :=
  ⟨f p.e0 q.e0, f p.e1 q.e1, f p.e2 q.e2, f p.e3 q.e3⟩

/-- The elements in order. -/
def toList (q : Quad α) : List α := [q.e0, q.e1, q.e2, q.e3]

/-- The same element four times. -/
def replicate (a : α) : Quad α := ⟨a, a, a, a⟩

end Quad

/-- Two things of one kind: the words of the file `MACT[0..1]` (10_state.md R49). -/
@[ext] structure Pair (α : Type) where
  /-- Element 0. -/
  e0 : α
  /-- Element 1. -/
  e1 : α
  deriving DecidableEq, Repr

namespace Pair

variable {α : Type}

/-- Element `i`. -/
def get (q : Pair α) : Fin 2 → α
  | 0 => q.e0
  | 1 => q.e1

end Pair

/-- A four-word register file `F[0..3]` (10_state.md R21). -/
abbrev WordFile := Quad Word

/-- Four consecutive bytes `X[4i] .. X[4i+3]` of a byte sequence: one column of the AES state
(40_aes_core.md R131), one word's lanes (20_memory.md R78). -/
abbrev Column := Quad Byte

/-- Exactly 16 bytes, held as four columns: byte `j` is row `j mod 4` of column `j div 4`
(00_scope.md R10, 40_aes_core.md R131). A Key128 has the same form. -/
abbrev Block := Quad Column

end Sys2Proof
end

