-- ==== Sys2Proof/Config.lean ====
section
/-!
DEFINITION. What an implementation fixes (00_scope.md R7) and the one value the spec leaves free
(10_state.md R50).
-/

namespace Sys2Proof

/-- `XW`, the capacity of DBUF in words, of THIS hardware: the default 64 (00_scope.md R7).
`State.reset` has a buffer of this many words; everything else reads XW off the buffer's length, so
statements hold for every legal XW (log 2). -/
def Config.xw : Nat := 64

/-- The legal values of `XW`: 2 ≤ XW ≤ 960 (00_scope.md R7). -/
def Config.xwLegal (n : Nat) : Bool := decide (2 ≤ n) && decide (n ≤ 960)

/-- FREE VALUE. Word `i` of DBUF as draw `n` leaves it: DBUF's contents after a reset are
unspecified, any value per word, independently, and they may differ between resets (10_state.md R50,
70_reset_and_hazards.md R341). No body: nothing can be proved of its value (log 1). -/
opaque Config.dbufDraw : Nat → Nat → Word

end Sys2Proof
end

