-- ==== Sys2Proof/Syntax.lean ====
section
/-!
DEFINITION. The commands of AU-CRYPT, one constructor per row of spec/opcode_table.json, and the
fields of the one command format "C" (30_encoding.md R100, R101, R107).
-/

namespace Sys2Proof

/-- The direction of a CBC session: the M bit of CBC_START (30_encoding.md R103) and STATUS.CBC_DIR
(10_state.md R30), 0 for encrypt and 1 for decrypt. -/
inductive Direction where
  /-- 0. -/
  | encrypt
  /-- 1. -/
  | decrypt
  deriving DecidableEq, Repr

/-- The commands (30_encoding.md R107). A command word carries no immediate, register number or
address; its only operand field is CBC_START's direction (R102, R103). -/
inductive Instr where
  /-- NOP, word 0x00000000 (44_control.md R280). -/
  | nop
  /-- AES_ENC, word 0x00000001 (40_aes_core.md R143). -/
  | aesEnc
  /-- AES_DEC, word 0x00000002 (40_aes_core.md R144). -/
  | aesDec
  /-- CBC_START, word 0x00000003 or 0x00000103; field `d` is bit 8 (41_cbc.md R172). -/
  | cbcStart (d : Direction)
  /-- CBC_BLOCK, word 0x00000004 (41_cbc.md R173, R174). -/
  | cbcBlock
  /-- CMAC_SUBKEYS, word 0x00000005 (42_cmac.md R193). -/
  | cmacSubkeys
  /-- CMAC_START, word 0x00000006 (42_cmac.md R198). -/
  | cmacStart
  /-- CMAC_BLOCK, word 0x00000007 (42_cmac.md R199, R200). -/
  | cmacBlock
  /-- XXTEA_ENCW, word 0x00000008 (43_xxtea.md R242). -/
  | xxteaEncw
  /-- XXTEA_ENCB, word 0x00000108 (43_xxtea.md R243). -/
  | xxteaEncb
  /-- XXTEA_DECW, word 0x00000009 (43_xxtea.md R244). -/
  | xxteaDecw
  /-- XXTEA_DECB, word 0x00000109 (43_xxtea.md R245). -/
  | xxteaDecb
  /-- ABORT, word 0x0000000E (44_control.md R281). -/
  | abort
  /-- SRESET, word 0x0000000F (44_control.md R282). -/
  | sreset
  deriving DecidableEq, Repr

/-- The three fields of a format C command word (30_encoding.md R101). -/
@[ext] structure CommandFields where
  /-- RSV, bits [31:9]. -/
  rsv : BitVec 23
  /-- M, bit [8]. -/
  m : Bool
  /-- OP, bits [7:0]. -/
  op : BitVec 8
  deriving DecidableEq, Repr

end Sys2Proof
end

