-- ==== Sys2Proof/Machine/State.lean ====
section
/-!
DEFINITION. The state of AU-CRYPT: every register and hidden field of 10_state.md R55, the two port
values that outlive a step, and the model's own event list and draw counter.
-/

namespace Sys2Proof.Machine

open Sys2Proof

/-- The error codes of STATUS.ERRCODE (60_exceptions.md R301). Codes 9 to 15 are reserved and never
written, so they have no constructor. -/
inductive ErrCode where
  /-- 0, success. -/
  | ok
  /-- 1, ERR_INVALID_KEY_LENGTH (R302). -/
  | invalidKeyLength
  /-- 2, ERR_INVALID_BLOCK_SIZE (R303). -/
  | invalidBlockSize
  /-- 3, ERR_CORRUPTED_CIPHERTEXT (R304). -/
  | corruptedCiphertext
  /-- 4, ERR_UNDERLYING_CIPHER_FAILURE; reserved, never raised with BC = AES-128 (R305). -/
  | underlyingCipherFailure
  /-- 5, ERR_INVALID_KEY (R306). -/
  | invalidKey
  /-- 6, ERR_ILLEGAL_COMMAND (R307). -/
  | illegalCommand
  /-- 7, ERR_SEQUENCE (R308). -/
  | sequence
  /-- 8, ERR_LENGTH_OVERFLOW (R309). -/
  | lengthOverflow
  deriving DecidableEq, Repr

/-- The events that change or read the block, in one total order (20_memory.md R87). -/
inductive Event where
  /-- A bus cycle with `sel` = 1, `we` = 0 on word offset `addr` (20_memory.md R70, R71). -/
  | busRead (addr : BitVec 10)
  /-- A bus cycle with `sel` = 1, `we` = 1 (20_memory.md R70, R71). -/
  | busWrite (addr : BitVec 10) (wdata : Word)
  /-- The engine's turn: it commits if a command is pending (70_reset_and_hazards.md R345). -/
  | engine
  /-- `rst_n` falls: hardware reset (70_reset_and_hazards.md R340). -/
  | resetLow
  /-- `rst_n` is high at a rising clock edge: the block leaves reset (70_reset_and_hazards.md R340). -/
  | resetHigh
  deriving DecidableEq, Repr

/-- The buffer memory of the block: DBUF[0], DBUF[1], … (10_state.md R50). The list is its only
representation: two equal buffers are equal lists. The block has no other memory (00_scope.md R13,
20_memory.md R86). -/
abbrev Memory := List Word

/-- A buffer has a legal capacity XW (00_scope.md R7). -/
def Memory.wf (m : Memory) : Bool := Config.xwLegal m.length

/-- DBUF as draw `n` leaves it: `xw` free words (10_state.md R50, log 1). -/
def drawMemory (n xw : Nat) : Memory := (List.range xw).map (Config.dbufDraw n)

/-- The machine's state. The fields down to `cmacR` are the tuple of 10_state.md R55 (STATUS.BUSY is
`pend ≠ none`, R25); `rstN` and `rdata` are ports; `events` and `draws` are the model's own. -/
structure State where
  /-- CMD: the last accepted command word (10_state.md R24). -/
  cmd : Word
  /-- PEND: the accepted command that has not committed (10_state.md R53). -/
  pend : Option Word
  /-- STATUS.DONE (10_state.md R26). -/
  done : Bool
  /-- STATUS.ERR (10_state.md R27). -/
  err : Bool
  /-- STATUS.WDROP (10_state.md R28). -/
  wdrop : Bool
  /-- STATUS.CBC_ACT (10_state.md R29). -/
  cbcAct : Bool
  /-- STATUS.CBC_DIR (10_state.md R30). -/
  cbcDir : Direction
  /-- STATUS.CMAC_ACT (10_state.md R31). -/
  cmacAct : Bool
  /-- STATUS.SKV (10_state.md R32). -/
  skv : Bool
  /-- STATUS.TAGV (10_state.md R33). -/
  tagv : Bool
  /-- STATUS.ERRCODE (10_state.md R34). -/
  errcode : ErrCode
  /-- IRQEN[2:0]: bit 0 DONE_IE, bit 1 ERR_IE, bit 2 WDROP_IE (10_state.md R36). -/
  irqen : BitVec 3
  /-- KEYCFG.AKLEN (10_state.md R37). -/
  aklen : BitVec 8
  /-- KEYCFG.XKV (10_state.md R38). -/
  xkv : Bool
  /-- LEN (10_state.md R39). -/
  len : Word
  /-- OUTLEN (10_state.md R40). -/
  outlen : Word
  /-- BLKCNT (10_state.md R41). -/
  blkcnt : Word
  /-- AKEY[0..3] (10_state.md R43). -/
  akey : WordFile
  /-- XKEY[0..3] (10_state.md R44). -/
  xkey : WordFile
  /-- DIN[0..3] (10_state.md R45). -/
  din : WordFile
  /-- DOUT[0..3] (10_state.md R46). -/
  dout : WordFile
  /-- K1R[0..3] (10_state.md R47). -/
  k1r : WordFile
  /-- K2R[0..3] (10_state.md R48). -/
  k2r : WordFile
  /-- MACT[0..1] (10_state.md R49). -/
  mact : Pair Word
  /-- DBUF[0..XW−1] (10_state.md R50). -/
  dbuf : Memory
  /-- CV, hidden: the chaining value (10_state.md R51). -/
  cv : Block
  /-- CMAC_CMPL, hidden (10_state.md R52). -/
  cmacCmpl : Bool
  /-- CMAC_R, hidden, 0 to 15 (10_state.md R52). -/
  cmacR : BitVec 4
  /-- The level of the input `rst_n` (20_memory.md R70, 70_reset_and_hazards.md R340; log 6). -/
  rstN : Bool
  /-- `rdata`: what the read access of the last step returned, none after any other step
  (20_memory.md R71; log 5). -/
  rdata : Option Word
  /-- MODEL's own: the events still to come, oldest first (20_memory.md R87; log 3). -/
  events : List Event
  /-- MODEL's own: how many draws of DBUF's contents have been made (log 1). -/
  draws : Nat
  deriving DecidableEq, Repr

/-- No step of this machine faults: an error is an error code at the failing command's commit, which
is a next state (60_exceptions.md R300, R311), and every bus access has a defined effect
(20_memory.md R74). So there is no constructor, and no difference from the hardware to call safe or
unsafe. -/
inductive Fault where
  deriving DecidableEq, Repr

/-- Why the model gives an instruction no meaning. -/
inductive Refusal where
  /-- Raised by an arm of `exec` whose instruction has no meaning yet. Safe: the model stops where
  the hardware goes on. No arm of this model raises it. -/
  | notModelled (mnemonic : String)
  deriving DecidableEq, Repr

/-- `XW` as CAPS and the length checks see it: the capacity of the buffer (10_state.md R42; log 2). -/
def State.xw (s : State) : Nat := s.dbuf.length

/-- The machine right after a hardware reset has been released (70_reset_and_hazards.md R341). DBUF
holds free values (log 1); the events to come and the draw counter are the model's own (log 3). -/
def State.reset : State where
  cmd := 0
  pend := none
  done := false
  err := false
  wdrop := false
  cbcAct := false
  cbcDir := .encrypt
  cmacAct := false
  skv := false
  tagv := false
  errcode := .ok
  irqen := 0
  aklen := 0
  xkv := false
  len := 0
  outlen := 0
  blkcnt := 0
  akey := .replicate 0
  xkey := .replicate 0
  din := .replicate 0
  dout := .replicate 0
  k1r := .replicate 0
  k2r := .replicate 0
  mact := ⟨0, 0⟩
  dbuf := drawMemory 0 Config.xw
  cv := .replicate (.replicate 0)
  cmacCmpl := false
  cmacR := 0
  rstN := true
  rdata := none
  events := []
  draws := 1

end Sys2Proof.Machine
end

