-- ==== Sys2Proof/Machine/Bytes.lean ====
section
/-!
DEFINITION. Byte order: the lane mapping of bytes onto words, Blocks as byte sequences and as
big-endian integers (00_scope.md R10, R11; 20_memory.md R78, R80, R81).
-/

namespace Sys2Proof.Machine

open Sys2Proof

/-- The four bytes of a word, lane `t` in bits `[8t+7:8t]` (20_memory.md R78, R81). -/
def columnOfWord (w : Word) : Column :=
  ⟨w.extractLsb' 0 8, w.extractLsb' 8 8, w.extractLsb' 16 8, w.extractLsb' 24 8⟩

/-- `X[4i] | X[4i+1]<<8 | X[4i+2]<<16 | X[4i+3]<<24` (20_memory.md R78, R81). -/
def wordOfColumn (c : Column) : Word := c.e3 ++ c.e2 ++ c.e1 ++ c.e0

/-- `blk(FILE)`: the Block held in a four-word file (00_scope.md R13, 20_memory.md R78). -/
def blockOfFile (f : WordFile) : Block := f.map columnOfWord

/-- The four words that hold a Block, for `blk(FILE) <- B` (00_scope.md R13, 20_memory.md R78). -/
def fileOfBlock (b : Block) : WordFile := b.map wordOfColumn

/-- Byte `j` of a Block, `j` taken modulo 16 (00_scope.md R10). -/
def byteOf (b : Block) (j : Nat) : Byte := (b.get (Fin.ofNat 4 (j / 4))).get (Fin.ofNat 4 j)

/-- The Block whose byte `j` is `f j` (00_scope.md R10). -/
def blockOfBytes (f : Nat → Byte) : Block :=
  .build fun c => .build fun r => f (4 * c.val + r.val)

/-- The 16 bytes of a Block, byte 0 first (00_scope.md R10). -/
def bytesOfBlock (b : Block) : List Byte := b.toList.flatMap Quad.toList

/-- The first 16 bytes of a byte sequence as a Block, zero-filled where it is shorter
(00_scope.md R10). -/
def blockOfList (l : List Byte) : Block := blockOfBytes fun j => l.getD j 0

/-- `A ⊕ B` on Blocks (00_scope.md R10). -/
def xorBlock (a b : Block) : Block := a.zipWith (Quad.zipWith (· ^^^ ·)) b

/-- `zeros(16)` (00_scope.md R10). -/
def zeroBlock : Block := .replicate (.replicate 0)

/-- Four bytes as a 32-bit integer, most significant byte first. -/
def columnBe (c : Column) : Word := c.e0 ++ c.e1 ++ c.e2 ++ c.e3

/-- The inverse of `columnBe`. -/
def columnOfBe (w : Word) : Column :=
  ⟨w.extractLsb' 24 8, w.extractLsb' 16 8, w.extractLsb' 8 8, w.extractLsb' 0 8⟩

/-- `int_be(B)`: a Block as a 128-bit integer, most significant byte first (00_scope.md R11). -/
def intBe (b : Block) : BitVec 128 :=
  columnBe b.e0 ++ columnBe b.e1 ++ columnBe b.e2 ++ columnBe b.e3

/-- `blk_be(v)`, the inverse of `int_be` (00_scope.md R11). -/
def blkBe (v : BitVec 128) : Block :=
  ⟨columnOfBe (v.extractLsb' 96 32), columnOfBe (v.extractLsb' 64 32),
    columnOfBe (v.extractLsb' 32 32), columnOfBe (v.extractLsb' 0 32)⟩

/-- `ceil(n / 4)`: how many words `n` bytes take (43_xxtea.md R237). -/
def wordsFor (n : Nat) : Nat := (n + 3) / 4

/-- Data byte `j` of a word array: lane `j mod 4` of word `j div 4` (20_memory.md R81). -/
def memByte (m : List Word) (j : Nat) : Byte :=
  (columnOfWord (m.getD (j / 4) 0)).get (Fin.ofNat 4 j)

/-- A word array with data byte `j` replaced (20_memory.md R81). -/
def memSetByte (m : List Word) (j : Nat) (b : Byte) : List Word :=
  m.set (j / 4) (wordOfColumn ((columnOfWord (m.getD (j / 4) 0)).set (Fin.ofNat 4 j) b))

/-- The 4·N bytes of a word array, each word little-endian (43_xxtea.md R238). -/
def bytesOfWords (v : List Word) : List Byte := v.flatMap fun w => (columnOfWord w).toList

/-- Word `i` of a byte sequence, zero-filled past its end (43_xxtea.md R237, R239). -/
def wordOfBytes (d : List Byte) (i : Nat) : Word :=
  wordOfColumn (.build fun t => d.getD (4 * i + t.val) 0)

/-- The `n` words of a byte sequence, little-endian, zero-filled past its end (43_xxtea.md R237). -/
def wordsOfBytes (d : List Byte) (n : Nat) : List Word := (List.range n).map (wordOfBytes d)

end Sys2Proof.Machine
end

