-- ==== Sys2Proof/Machine/AesCore.lean ====
section
/-!
DEFINITION. The block cipher core: AES-128 (40_aes_core.md R130 to R141). The state array
`s[r][c] = in[r + 4c]` of R131 is a `Block`: row `r` of column `c`.
-/

namespace Sys2Proof.Machine

open Sys2Proof

/-! ### Byte arithmetic in GF(2^8) -/

/-- Multiplication by x (40_aes_core.md R132). -/
def xtime (a : Byte) : Byte := (a <<< 1) ^^^ (if a.getLsbD 7 then 0x1B else 0x00)

/-- `xtime^i` (40_aes_core.md R132). -/
def xtimePow : Nat → Byte → Byte
  | 0, a => a
  | i + 1, a => xtime (xtimePow i a)

/-- The term of `gmul(a, b)` for bit `i` of `b` (40_aes_core.md R132). -/
def gmulTerm (a b : Byte) (i : Nat) : Byte := if b.getLsbD i then xtimePow i a else 0

/-- Multiplication: the XOR over the bits `i` of `b` that are 1 of `xtime^i(a)`
(40_aes_core.md R132). -/
def gmul (a b : Byte) : Byte :=
  gmulTerm a b 0 ^^^ gmulTerm a b 1 ^^^ gmulTerm a b 2 ^^^ gmulTerm a b 3 ^^^
    gmulTerm a b 4 ^^^ gmulTerm a b 5 ^^^ gmulTerm a b 6 ^^^ gmulTerm a b 7

/-! ### S-boxes -/

/-- The S-box table, row `x` column `y` (40_aes_core.md R134). -/
def sboxRows : List (List Nat) := [
  [0x63, 0x7c, 0x77, 0x7b, 0xf2, 0x6b, 0x6f, 0xc5, 0x30, 0x01, 0x67, 0x2b, 0xfe, 0xd7, 0xab, 0x76],
  [0xca, 0x82, 0xc9, 0x7d, 0xfa, 0x59, 0x47, 0xf0, 0xad, 0xd4, 0xa2, 0xaf, 0x9c, 0xa4, 0x72, 0xc0],
  [0xb7, 0xfd, 0x93, 0x26, 0x36, 0x3f, 0xf7, 0xcc, 0x34, 0xa5, 0xe5, 0xf1, 0x71, 0xd8, 0x31, 0x15],
  [0x04, 0xc7, 0x23, 0xc3, 0x18, 0x96, 0x05, 0x9a, 0x07, 0x12, 0x80, 0xe2, 0xeb, 0x27, 0xb2, 0x75],
  [0x09, 0x83, 0x2c, 0x1a, 0x1b, 0x6e, 0x5a, 0xa0, 0x52, 0x3b, 0xd6, 0xb3, 0x29, 0xe3, 0x2f, 0x84],
  [0x53, 0xd1, 0x00, 0xed, 0x20, 0xfc, 0xb1, 0x5b, 0x6a, 0xcb, 0xbe, 0x39, 0x4a, 0x4c, 0x58, 0xcf],
  [0xd0, 0xef, 0xaa, 0xfb, 0x43, 0x4d, 0x33, 0x85, 0x45, 0xf9, 0x02, 0x7f, 0x50, 0x3c, 0x9f, 0xa8],
  [0x51, 0xa3, 0x40, 0x8f, 0x92, 0x9d, 0x38, 0xf5, 0xbc, 0xb6, 0xda, 0x21, 0x10, 0xff, 0xf3, 0xd2],
  [0xcd, 0x0c, 0x13, 0xec, 0x5f, 0x97, 0x44, 0x17, 0xc4, 0xa7, 0x7e, 0x3d, 0x64, 0x5d, 0x19, 0x73],
  [0x60, 0x81, 0x4f, 0xdc, 0x22, 0x2a, 0x90, 0x88, 0x46, 0xee, 0xb8, 0x14, 0xde, 0x5e, 0x0b, 0xdb],
  [0xe0, 0x32, 0x3a, 0x0a, 0x49, 0x06, 0x24, 0x5c, 0xc2, 0xd3, 0xac, 0x62, 0x91, 0x95, 0xe4, 0x79],
  [0xe7, 0xc8, 0x37, 0x6d, 0x8d, 0xd5, 0x4e, 0xa9, 0x6c, 0x56, 0xf4, 0xea, 0x65, 0x7a, 0xae, 0x08],
  [0xba, 0x78, 0x25, 0x2e, 0x1c, 0xa6, 0xb4, 0xc6, 0xe8, 0xdd, 0x74, 0x1f, 0x4b, 0xbd, 0x8b, 0x8a],
  [0x70, 0x3e, 0xb5, 0x66, 0x48, 0x03, 0xf6, 0x0e, 0x61, 0x35, 0x57, 0xb9, 0x86, 0xc1, 0x1d, 0x9e],
  [0xe1, 0xf8, 0x98, 0x11, 0x69, 0xd9, 0x8e, 0x94, 0x9b, 0x1e, 0x87, 0xe9, 0xce, 0x55, 0x28, 0xdf],
  [0x8c, 0xa1, 0x89, 0x0d, 0xbf, 0xe6, 0x42, 0x68, 0x41, 0x99, 0x2d, 0x0f, 0xb0, 0x54, 0xbb, 0x16]]

/-- The inverse S-box table, row `x` column `y` (40_aes_core.md R135). -/
def invSboxRows : List (List Nat) := [
  [0x52, 0x09, 0x6a, 0xd5, 0x30, 0x36, 0xa5, 0x38, 0xbf, 0x40, 0xa3, 0x9e, 0x81, 0xf3, 0xd7, 0xfb],
  [0x7c, 0xe3, 0x39, 0x82, 0x9b, 0x2f, 0xff, 0x87, 0x34, 0x8e, 0x43, 0x44, 0xc4, 0xde, 0xe9, 0xcb],
  [0x54, 0x7b, 0x94, 0x32, 0xa6, 0xc2, 0x23, 0x3d, 0xee, 0x4c, 0x95, 0x0b, 0x42, 0xfa, 0xc3, 0x4e],
  [0x08, 0x2e, 0xa1, 0x66, 0x28, 0xd9, 0x24, 0xb2, 0x76, 0x5b, 0xa2, 0x49, 0x6d, 0x8b, 0xd1, 0x25],
  [0x72, 0xf8, 0xf6, 0x64, 0x86, 0x68, 0x98, 0x16, 0xd4, 0xa4, 0x5c, 0xcc, 0x5d, 0x65, 0xb6, 0x92],
  [0x6c, 0x70, 0x48, 0x50, 0xfd, 0xed, 0xb9, 0xda, 0x5e, 0x15, 0x46, 0x57, 0xa7, 0x8d, 0x9d, 0x84],
  [0x90, 0xd8, 0xab, 0x00, 0x8c, 0xbc, 0xd3, 0x0a, 0xf7, 0xe4, 0x58, 0x05, 0xb8, 0xb3, 0x45, 0x06],
  [0xd0, 0x2c, 0x1e, 0x8f, 0xca, 0x3f, 0x0f, 0x02, 0xc1, 0xaf, 0xbd, 0x03, 0x01, 0x13, 0x8a, 0x6b],
  [0x3a, 0x91, 0x11, 0x41, 0x4f, 0x67, 0xdc, 0xea, 0x97, 0xf2, 0xcf, 0xce, 0xf0, 0xb4, 0xe6, 0x73],
  [0x96, 0xac, 0x74, 0x22, 0xe7, 0xad, 0x35, 0x85, 0xe2, 0xf9, 0x37, 0xe8, 0x1c, 0x75, 0xdf, 0x6e],
  [0x47, 0xf1, 0x1a, 0x71, 0x1d, 0x29, 0xc5, 0x89, 0x6f, 0xb7, 0x62, 0x0e, 0xaa, 0x18, 0xbe, 0x1b],
  [0xfc, 0x56, 0x3e, 0x4b, 0xc6, 0xd2, 0x79, 0x20, 0x9a, 0xdb, 0xc0, 0xfe, 0x78, 0xcd, 0x5a, 0xf4],
  [0x1f, 0xdd, 0xa8, 0x33, 0x88, 0x07, 0xc7, 0x31, 0xb1, 0x12, 0x10, 0x59, 0x27, 0x80, 0xec, 0x5f],
  [0x60, 0x51, 0x7f, 0xa9, 0x19, 0xb5, 0x4a, 0x0d, 0x2d, 0xe5, 0x7a, 0x9f, 0x93, 0xc9, 0x9c, 0xef],
  [0xa0, 0xe0, 0x3b, 0x4d, 0xae, 0x2a, 0xf5, 0xb0, 0xc8, 0xeb, 0xbb, 0x3c, 0x83, 0x53, 0x99, 0x61],
  [0x17, 0x2b, 0x04, 0x7e, 0xba, 0x77, 0xd6, 0x26, 0xe1, 0x69, 0x14, 0x63, 0x55, 0x21, 0x0c, 0x7d]]

/-- The entry of a 16 × 16 table for byte `16·x + y`: row `x`, column `y`. -/
def tableEntry (rows : List (List Nat)) (a : Byte) : Byte :=
  BitVec.ofNat 8 ((rows.getD (a.toNat / 16) []).getD (a.toNat % 16) 0)

/-- `S(a)` (40_aes_core.md R134). -/
def sbox (a : Byte) : Byte := tableEntry sboxRows a

/-- `Si(a)` (40_aes_core.md R135). -/
def invSbox (a : Byte) : Byte := tableEntry invSboxRows a

/-! ### Round transformations -/

/-- `s[r][c]` (40_aes_core.md R131). -/
def stateAt (s : Block) (r c : Fin 4) : Byte := (s.get c).get r

/-- The state whose entry at row `r`, column `c` is `f r c` (40_aes_core.md R131). -/
def stateOf (f : Fin 4 → Fin 4 → Byte) : Block := .build fun c => .build fun r => f r c

/-- SubBytes (40_aes_core.md R136). -/
def subBytes (s : Block) : Block := s.map (Quad.map sbox)

/-- InvSubBytes (40_aes_core.md R136). -/
def invSubBytes (s : Block) : Block := s.map (Quad.map invSbox)

/-- ShiftRows: `s'[r][c] = s[r][(c + r) mod 4]` (40_aes_core.md R136). -/
def shiftRows (s : Block) : Block := stateOf fun r c => stateAt s r (c + r)

/-- InvShiftRows: `s'[r][c] = s[r][(c - r) mod 4]` (40_aes_core.md R136). -/
def invShiftRows (s : Block) : Block := stateOf fun r c => stateAt s r (c - r)

/-- MixColumns on one column (40_aes_core.md R136). -/
def mixColumn (a : Column) : Column :=
  { e0 := gmul a.e0 2 ^^^ gmul a.e1 3 ^^^ a.e2 ^^^ a.e3
    e1 := a.e0 ^^^ gmul a.e1 2 ^^^ gmul a.e2 3 ^^^ a.e3
    e2 := a.e0 ^^^ a.e1 ^^^ gmul a.e2 2 ^^^ gmul a.e3 3
    e3 := gmul a.e0 3 ^^^ a.e1 ^^^ a.e2 ^^^ gmul a.e3 2 }

/-- InvMixColumns on one column (40_aes_core.md R136). -/
def invMixColumn (a : Column) : Column :=
  { e0 := gmul a.e0 14 ^^^ gmul a.e1 11 ^^^ gmul a.e2 13 ^^^ gmul a.e3 9
    e1 := gmul a.e0 9 ^^^ gmul a.e1 14 ^^^ gmul a.e2 11 ^^^ gmul a.e3 13
    e2 := gmul a.e0 13 ^^^ gmul a.e1 9 ^^^ gmul a.e2 14 ^^^ gmul a.e3 11
    e3 := gmul a.e0 11 ^^^ gmul a.e1 13 ^^^ gmul a.e2 9 ^^^ gmul a.e3 14 }

/-- MixColumns (40_aes_core.md R136). -/
def mixColumns (s : Block) : Block := s.map mixColumn

/-- InvMixColumns (40_aes_core.md R136). -/
def invMixColumns (s : Block) : Block := s.map invMixColumn

/-! ### Key expansion -/

/-- `Rcon[1] = 0x01` and `Rcon[i+1] = xtime(Rcon[i])` (40_aes_core.md R137). `Rcon[0]` is not used. -/
def rcon : Nat → Byte
  | 0 => 0x00
  | i + 1 => xtimePow i 0x01

/-- `RotWord` (40_aes_core.md R138). -/
def rotWord (a : Column) : Column := ⟨a.e1, a.e2, a.e3, a.e0⟩

/-- `SubWord` (40_aes_core.md R138). -/
def subWord (a : Column) : Column := a.map sbox

/-- Bytewise XOR of columns (40_aes_core.md R138). -/
def xorColumn (a b : Column) : Column := a.zipWith (· ^^^ ·) b

/-- Four columns `kw[4i .. 4i+3]` from the four before them (40_aes_core.md R139): the first takes
`SubWord(RotWord(kw[4i-1])) ⊕ (Rcon[i], 0, 0, 0)`, each next one the column before it. -/
def nextRoundKey (i : Nat) (k : Block) : Block :=
  let c0 := xorColumn k.e0 (xorColumn (subWord (rotWord k.e3)) ⟨rcon i, 0x00, 0x00, 0x00⟩)
  let c1 := xorColumn k.e1 c0
  let c2 := xorColumn k.e2 c1
  let c3 := xorColumn k.e3 c2
  ⟨c0, c1, c2, c3⟩

/-- Round key `rk`, the columns `kw[4rk .. 4rk+3]`; round key 0 is the key (40_aes_core.md R139). -/
def roundKey (key : Block) : Nat → Block
  | 0 => key
  | rk + 1 => nextRoundKey (rk + 1) (roundKey key rk)

/-- Column `kw[i]` of the key expansion (40_aes_core.md R139). -/
def keyColumn (key : Block) (i : Nat) : Column := (roundKey key (i / 4)).get (Fin.ofNat 4 i)

/-- AddRoundKey: `s'[r][c] = s[r][c] ^ kw[4·rk + c][r]` (40_aes_core.md R136). -/
def addRoundKey (key : Block) (rk : Nat) (s : Block) : Block := xorBlock s (roundKey key rk)

/-! ### The cipher and its inverse -/

/-- Rounds 1 to 9 of encryption (40_aes_core.md R140). -/
def encryptRound (key : Block) (s : Block) (rk : Nat) : Block :=
  addRoundKey key rk (mixColumns (shiftRows (subBytes s)))

/-- `E(K, P)`, `blockcipher_encrypt` (40_aes_core.md R130, R140). -/
def aesEncrypt (key p : Block) : Block :=
  let s := [1, 2, 3, 4, 5, 6, 7, 8, 9].foldl (encryptRound key) (addRoundKey key 0 p)
  addRoundKey key 10 (shiftRows (subBytes s))

/-- Rounds 9 down to 1 of decryption (40_aes_core.md R141). -/
def decryptRound (key : Block) (s : Block) (rk : Nat) : Block :=
  invMixColumns (addRoundKey key rk (invSubBytes (invShiftRows s)))

/-- `D(K, C)`, `blockcipher_decrypt` (40_aes_core.md R130, R141). -/
def aesDecrypt (key c : Block) : Block :=
  let s := [9, 8, 7, 6, 5, 4, 3, 2, 1].foldl (decryptRound key) (addRoundKey key 10 c)
  addRoundKey key 0 (invSubBytes (invShiftRows s))

/-! ### The algebraic definition of the S-box -/

/-- `a^254`, which is `a^(-1)` in GF(2^8), with `0^(-1) = 0` (40_aes_core.md R133). -/
def gfInv (a : Byte) : Byte :=
  let a2 := gmul a a
  let a4 := gmul a2 a2
  let a8 := gmul a4 a4
  let a16 := gmul a8 a8
  let a32 := gmul a16 a16
  let a64 := gmul a32 a32
  let a128 := gmul a64 a64
  gmul a2 (gmul a4 (gmul a8 (gmul a16 (gmul a32 (gmul a64 a128)))))

/-- `rotl8(b, k)` (40_aes_core.md R133). -/
def rotl8 (b : Byte) (k : Nat) : Byte := (b <<< k) ||| (b >>> (8 - k))

/-- The affine map of the S-box, on the inverse `b` (40_aes_core.md R133). -/
def sboxAffine (b : Byte) : Byte :=
  b ^^^ rotl8 b 1 ^^^ rotl8 b 2 ^^^ rotl8 b 3 ^^^ rotl8 b 4 ^^^ 0x63

end Sys2Proof.Machine
end

