-- ==== Sys2Proof/WellFormed.lean ====
section
/-!
DEFINITION. Which command words are legal (30_encoding.md R104). A term of `Instr` has no field that
could be out of range, so every term is well formed; the checks the spec gives are on the fields of
the word that is written to CMD, and they are three.
-/

namespace Sys2Proof

/-- The assigned opcodes of 30_encoding.md R107; 0x0A to 0x0D and 0x10 to 0xFF are reserved. -/
def assignedOpcodes : List (BitVec 8) :=
  [0x00, 0x01, 0x02, 0x03, 0x04, 0x05, 0x06, 0x07, 0x08, 0x09, 0x0E, 0x0F]

/-- The opcodes that have an M bit: CBC_START, XXTEA_ENC, XXTEA_DEC (30_encoding.md R103, R104). -/
def modifierOpcodes : List (BitVec 8) := [0x03, 0x08, 0x09]

namespace CommandFields

/-- `w[31:9] = 0`. -/
def rsvZero (f : CommandFields) : Bool := f.rsv == 0

/-- `w[7:0]` is an assigned opcode. -/
def opAssigned (f : CommandFields) : Bool := assignedOpcodes.contains f.op

/-- `w[8] = 0`, or the opcode is one of 0x03, 0x08, 0x09. -/
def modifierAllowed (f : CommandFields) : Bool := !f.m || modifierOpcodes.contains f.op

/-- A command word is legal iff all three hold (30_encoding.md R104). -/
def wellFormed (f : CommandFields) : Bool := f.rsvZero && f.opAssigned && f.modifierAllowed

end CommandFields

end Sys2Proof
end

