-- ==== Sys2Proof/Decode.lean ====
section
/-!
DEFINITION. The decoder of command words, total on every 32-bit word and rejecting by name, and
after it the encoder (30_encoding.md R101, R104, R107).
-/

namespace Sys2Proof

/-- Why a command word is illegal (30_encoding.md R104). -/
inductive DecodeError where
  /-- `w[31:9] ≠ 0`. -/
  | reservedBits
  /-- `w[7:0]` is no assigned opcode. -/
  | reservedOpcode
  /-- `w[8] = 1` on an opcode without an M bit. -/
  | modifierSet
  deriving DecidableEq, Repr

/-- The fields of a command word (30_encoding.md R101). -/
def fieldsOf (w : Word) : CommandFields :=
  { rsv := w.extractLsb' 9 23, m := w.getLsbD 8, op := w.extractLsb' 0 8 }

/-- The word of given fields (30_encoding.md R101). -/
def wordOf (f : CommandFields) : Word := f.rsv ++ BitVec.ofBool f.m ++ f.op

/-- A command word is legal iff its fields are well formed (30_encoding.md R104). -/
def legalWord (w : Word) : Bool := (fieldsOf w).wellFormed

/-- The command of an opcode and M bit (30_encoding.md R107). -/
def decodeOp (op : BitVec 8) (m : Bool) : Except DecodeError Instr :=
  match op.toNat, m with
  | 0x00, false => .ok .nop
  | 0x01, false => .ok .aesEnc
  | 0x02, false => .ok .aesDec
  | 0x03, false => .ok (.cbcStart .encrypt)
  | 0x03, true => .ok (.cbcStart .decrypt)
  | 0x04, false => .ok .cbcBlock
  | 0x05, false => .ok .cmacSubkeys
  | 0x06, false => .ok .cmacStart
  | 0x07, false => .ok .cmacBlock
  | 0x08, false => .ok .xxteaEncw
  | 0x08, true => .ok .xxteaEncb
  | 0x09, false => .ok .xxteaDecw
  | 0x09, true => .ok .xxteaDecb
  | 0x0E, false => .ok .abort
  | 0x0F, false => .ok .sreset
  | _, _ => if assignedOpcodes.contains op then .error .modifierSet else .error .reservedOpcode

/-- The decoder: every word is either legal and names exactly one command, or is illegal
(30_encoding.md R104). -/
def decode (w : Word) : Except DecodeError Instr :=
  if (fieldsOf w).rsv == 0 then decodeOp (fieldsOf w).op (fieldsOf w).m else .error .reservedBits

/-- The M bit of CBC_START's direction (30_encoding.md R103). -/
def Direction.toBit : Direction → Bool
  | .encrypt => false
  | .decrypt => true

/-- OP and M of a command (30_encoding.md R107). -/
def encodeFields : Instr → CommandFields
  | .nop => { rsv := 0, m := false, op := 0x00 }
  | .aesEnc => { rsv := 0, m := false, op := 0x01 }
  | .aesDec => { rsv := 0, m := false, op := 0x02 }
  | .cbcStart d => { rsv := 0, m := d.toBit, op := 0x03 }
  | .cbcBlock => { rsv := 0, m := false, op := 0x04 }
  | .cmacSubkeys => { rsv := 0, m := false, op := 0x05 }
  | .cmacStart => { rsv := 0, m := false, op := 0x06 }
  | .cmacBlock => { rsv := 0, m := false, op := 0x07 }
  | .xxteaEncw => { rsv := 0, m := false, op := 0x08 }
  | .xxteaEncb => { rsv := 0, m := true, op := 0x08 }
  | .xxteaDecw => { rsv := 0, m := false, op := 0x09 }
  | .xxteaDecb => { rsv := 0, m := true, op := 0x09 }
  | .abort => { rsv := 0, m := false, op := 0x0E }
  | .sreset => { rsv := 0, m := false, op := 0x0F }

/-- The encoder: the one command word of a command, `w = zext_32(OP) | (M << 8)`
(30_encoding.md R101). -/
def encode (i : Instr) : Word := wordOf (encodeFields i)

/-- The SRESET word 0x0000000F, decoded at the CMD write itself (30_encoding.md R106). -/
def sresetWord : Word := 0x0000000F

/-- The command word an opcode-table row's `nbits` bits `w` stand for; every bit above is 0. -/
def tableWord (nbits w : Nat) : Word := BitVec.ofNat 32 (w % 2 ^ nbits)

/-- What the decoder reads from the instruction whose bits are `w`, none where it refuses. -/
def decodeTableWord (nbits w : Nat) : Option Instr :=
  match decode (tableWord nbits w) with
  | .ok i => some i
  | .error _ => none

end Sys2Proof
end

