-- ==== Sys2Proof/Machine/Operands.lean ====
section
/-!
DEFINITION. The operands of the commands (30_encoding.md R102): the state a command's rule reads, in
the form it reads it, and the checks on operands that several commands share
(60_exceptions.md R310).
-/

namespace Sys2Proof.Machine

open Sys2Proof

/-- STATUS.BUSY: a command is pending (10_state.md R25). -/
def State.busy (s : State) : Bool := s.pend.isSome

/-- A CBC or CMAC session is open. -/
def State.sessionOpen (s : State) : Bool := s.cbcAct || s.cmacAct

/-- `blk(AKEY)`, the AES key `Kaes` (10_state.md R43). -/
def State.aesKey (s : State) : Block := blockOfFile s.akey

/-- `blk(DIN)`, the input Block (10_state.md R45). -/
def State.dinBlock (s : State) : Block := blockOfFile s.din

/-- LEN as an unsigned number, never sign-extended, scaled or shifted (30_encoding.md R102). -/
def State.lenNat (s : State) : Nat := s.len.toNat

/-- The level-3 check of an AES-subsystem command: AKLEN = 16 (10_state.md R37, 60_exceptions.md R302). -/
def State.keyLengthOk (s : State) : Bool := s.aklen == 16

/-- The level-4 check of CBC_START: LEN is a positive multiple of 16 (60_exceptions.md R303). -/
def State.blockSizeOk (s : State) : Bool := s.lenNat != 0 && s.lenNat % 16 == 0

end Sys2Proof.Machine
end

