-- ==== Sys2Proof/Machine/Flags.lean ====
section
/-!
DEFINITION. The flags: STATUS as it is read and written (10_state.md R25 to R35), the interrupt
enables (R36) and the interrupt output (60_exceptions.md R315).
-/

namespace Sys2Proof.Machine

open Sys2Proof

/-- An error code as STATUS bits [15:12] hold it (60_exceptions.md R301). -/
def errBits : ErrCode → BitVec 4
  | .ok => 0
  | .invalidKeyLength => 1
  | .invalidBlockSize => 2
  | .corruptedCiphertext => 3
  | .underlyingCipherFailure => 4
  | .invalidKey => 5
  | .illegalCommand => 6
  | .sequence => 7
  | .lengthOverflow => 8

/-- A one-bit field at bit `i` of a register. -/
def flagAt (b : Bool) (i : Nat) : Word := (BitVec.ofBool b).setWidth 32 <<< i

/-- What a read of STATUS returns; bits [11:9] and [31:16] read 0 (10_state.md R35). -/
def statusWord (s : State) : Word :=
  flagAt s.busy 0 ||| flagAt s.done 1 ||| flagAt s.err 2 ||| flagAt s.wdrop 3 |||
    flagAt s.cbcAct 4 ||| flagAt s.cbcDir.toBit 5 ||| flagAt s.cmacAct 6 ||| flagAt s.skv 7 |||
    flagAt s.tagv 8 ||| ((errBits s.errcode).setWidth 32 <<< 12)

/-- A write of STATUS: the three W1C effects in one step; every other bit of `v` is ignored
(10_state.md R26 to R28, R35). Clearing ERR is the host's acknowledgement of an error, the only
"return" the block has (60_exceptions.md R312). -/
def State.writeStatus (v : Word) (s : State) : State :=
  { s with
    done := s.done && !v.getLsbD 1
    err := s.err && !v.getLsbD 2
    errcode := if v.getLsbD 2 then .ok else s.errcode
    wdrop := s.wdrop && !v.getLsbD 3 }

/-- IRQEN bit 0, DONE_IE (10_state.md R36). -/
def State.doneIe (s : State) : Bool := s.irqen.getLsbD 0

/-- IRQEN bit 1, ERR_IE (10_state.md R36). -/
def State.errIe (s : State) : Bool := s.irqen.getLsbD 1

/-- IRQEN bit 2, WDROP_IE (10_state.md R36). -/
def State.wdropIe (s : State) : Bool := s.irqen.getLsbD 2

/-- The level interrupt output, a function of the state at every instant (60_exceptions.md R315). -/
def State.irq (s : State) : Bool :=
  (s.done && s.doneIe) || (s.err && s.errIe) || (s.wdrop && s.wdropIe)

/-- What a read of KEYCFG returns: AKLEN in bits [7:0], XKV in bit 8, 0 above
(10_state.md R37, R38). -/
def keycfgWord (s : State) : Word := s.aklen.setWidth 32 ||| flagAt s.xkv 8

/-- What a read of CAPS returns: XW in bits [15:0], 0 above (10_state.md R42). -/
def capsWord (s : State) : Word := (BitVec.ofNat 16 s.xw).setWidth 32

end Sys2Proof.Machine
end

