-- ==== Sys2Proof/Machine/Ops.lean ====
section
/-!
DEFINITION. The named operations over registers: the register map and the host's read and write
(10_state.md R23, 20_memory.md R71 to R76), the acceptance and the commit of a command
(70_reset_and_hazards.md R344, R345), the error report that is this block's exception entry
(60_exceptions.md R311), the reset effect (R341), and the register writes several commands share.
-/

namespace Sys2Proof.Machine

open Sys2Proof

/-! ### The register map -/

/-- The registers of 10_state.md R23; `reserved` stands for every offset the map leaves out. -/
inductive Reg where
  /-- 0x000. -/
  | cmd
  /-- 0x004. -/
  | status
  /-- 0x008. -/
  | irqen
  /-- 0x00C. -/
  | keycfg
  /-- 0x010. -/
  | len
  /-- 0x014. -/
  | outlen
  /-- 0x018. -/
  | blkcnt
  /-- 0x01C. -/
  | caps
  /-- 0x020 to 0x02C. -/
  | akey (j : Fin 4)
  /-- 0x030 to 0x03C. -/
  | xkey (j : Fin 4)
  /-- 0x040 to 0x04C. -/
  | din (j : Fin 4)
  /-- 0x050 to 0x05C. -/
  | dout (j : Fin 4)
  /-- 0x060 to 0x06C. -/
  | k1r (j : Fin 4)
  /-- 0x070 to 0x07C. -/
  | k2r (j : Fin 4)
  /-- 0x080 to 0x084. -/
  | mact (j : Fin 2)
  /-- 0x100 + 4·i, i < XW. -/
  | dbuf (i : Nat)
  /-- 0x088 to 0x0FC, and 0x100 + 4·XW to 0xFFC. -/
  | reserved
  deriving DecidableEq, Repr

/-- The byte offset of a bus address: `off = zext_12(addr) << 2` (20_memory.md R72). -/
def offsetOf (addr : BitVec 10) : Nat := 4 * addr.toNat

/-- Word `j` of the four-word file at `base` that holds offset `off`. -/
def wordIndex (off base : Nat) : Fin 4 := Fin.ofNat 4 ((off - base) / 4)

/-- The register at a word-aligned byte offset, with XW words of DBUF
(10_state.md R23; 20_memory.md R72, R74, R85). -/
def regAt (xw off : Nat) : Reg :=
  if off = 0x000 then .cmd
  else if off = 0x004 then .status
  else if off = 0x008 then .irqen
  else if off = 0x00C then .keycfg
  else if off = 0x010 then .len
  else if off = 0x014 then .outlen
  else if off = 0x018 then .blkcnt
  else if off = 0x01C then .caps
  else if off < 0x030 then .akey (wordIndex off 0x020)
  else if off < 0x040 then .xkey (wordIndex off 0x030)
  else if off < 0x050 then .din (wordIndex off 0x040)
  else if off < 0x060 then .dout (wordIndex off 0x050)
  else if off < 0x070 then .k1r (wordIndex off 0x060)
  else if off < 0x080 then .k2r (wordIndex off 0x070)
  else if off < 0x088 then .mact (Fin.ofNat 2 ((off - 0x080) / 4))
  else if off < 0x100 then .reserved
  else if off < 0x100 + 4 * xw then .dbuf ((off - 0x100) / 4)
  else .reserved

/-- The register a bus address selects in state `s` (20_memory.md R72). -/
def State.regOf (s : State) (addr : BitVec 10) : Reg := regAt s.xw (offsetOf addr)

/-! ### The host's accesses -/

/-- What a read of a register returns. Reads of the write-only AKEY and XKEY and of reserved offsets
return 0 (10_state.md R23; 20_memory.md R74; 60_exceptions.md R319). -/
def readReg (s : State) : Reg → Word
  | .cmd => s.cmd
  | .status => statusWord s
  | .irqen => s.irqen.setWidth 32
  | .keycfg => keycfgWord s
  | .len => s.len
  | .outlen => s.outlen
  | .blkcnt => s.blkcnt
  | .caps => capsWord s
  | .akey _ => 0
  | .xkey _ => 0
  | .din j => s.din.get j
  | .dout j => s.dout.get j
  | .k1r j => s.k1r.get j
  | .k2r j => s.k2r.get j
  | .mact j => s.mact.get j
  | .dbuf i => s.dbuf.getD i 0
  | .reserved => 0

/-- The drop condition of a register (the "drop while" column of 10_state.md R23; 20_memory.md R76).
The SRESET word is kept out of it where the write to CMD is made (30_encoding.md R106). -/
def dropped (s : State) : Reg → Bool
  | .cmd => s.busy
  | .status => false
  | .irqen => false
  | .keycfg => s.busy || s.sessionOpen
  | .len => s.busy
  | .outlen => false
  | .blkcnt => false
  | .caps => false
  | .akey _ => s.busy || s.sessionOpen
  | .xkey _ => s.busy
  | .din _ => s.busy
  | .dout _ => false
  | .k1r _ => false
  | .k2r _ => false
  | .mact _ => false
  | .dbuf _ => s.busy
  | .reserved => false

/-- Acceptance of a command word (70_reset_and_hazards.md R344): CMD and PEND take it, which sets
BUSY, and DONE, ERR and ERRCODE are cleared. WDROP and every other field stay. -/
def State.accept (w : Word) (s : State) : State :=
  { s with cmd := w, pend := some w, done := false, err := false, errcode := .ok }

/-- A write that is not dropped (20_memory.md R76). Writes to read-only registers and to reserved
offsets are ignored (20_memory.md R74). -/
def writeReg (s : State) (v : Word) : Reg → State
  | .cmd => s.accept v
  | .status => s.writeStatus v
  | .irqen => { s with irqen := v.setWidth 3 }
  | .keycfg => { s with aklen := v.setWidth 8, xkv := v.getLsbD 8, skv := false }
  | .len => { s with len := v }
  | .outlen => s
  | .blkcnt => s
  | .caps => s
  | .akey j => { s with akey := s.akey.set j v, skv := false }
  | .xkey j => { s with xkey := s.xkey.set j v }
  | .din j => { s with din := s.din.set j v }
  | .dout _ => s
  | .k1r _ => s
  | .k2r _ => s
  | .mact _ => s
  | .dbuf i => { s with dbuf := s.dbuf.set i v }
  | .reserved => s

/-- A dropped write changes nothing except `WDROP <- 1` (20_memory.md R76, 60_exceptions.md R314). -/
def State.dropWrite (s : State) : State := { s with wdrop := true }

/-- A host write of `v` to a register, SRESET apart (20_memory.md R76). -/
def hostWriteReg (s : State) (v : Word) (r : Reg) : State :=
  if dropped s r then s.dropWrite else writeReg s v r

/-- `BusRead`: the value goes to `rdata` and nothing else changes (20_memory.md R71, R75). While
`rst_n` = 0 reads return 0 (70_reset_and_hazards.md R340). -/
def State.busRead (addr : BitVec 10) (s : State) : State :=
  { s with rdata := some (if s.rstN then readReg s (s.regOf addr) else 0) }

/-! ### Commit, error report, reset -/

/-- The common commit effects for outcome code `c` (70_reset_and_hazards.md R345). -/
def State.commit (c : ErrCode) (s : State) : State :=
  { s with pend := none, done := true, err := c != .ok, errcode := c }

/-- TAKING AN EXCEPTION: the error report of a command that raises code `c`, with no state saved, no
mode changed and no vector (60_exceptions.md R311). Its return is `State.writeStatus` or the next
acceptance (R312). -/
def State.raise (c : ErrCode) (s : State) : State := s.commit c

/-- The commit of a command that succeeds, code 0 (70_reset_and_hazards.md R345). -/
def State.succeed (s : State) : State := s.commit .ok

/-- The reset effect on every register and hidden field (70_reset_and_hazards.md R341): the values of
`State.reset`, and DBUF's words drawn anew. The ports and the events to come are not touched. -/
def State.resetEffect (s : State) : State :=
  { State.reset with
    dbuf := drawMemory s.draws s.xw
    rstN := s.rstN
    rdata := s.rdata
    events := s.events
    draws := s.draws + 1 }

/-- `rst_n` falls: the reset effect, and the block is held in reset (70_reset_and_hazards.md R340). -/
def State.holdReset (s : State) : State := { s.resetEffect with rstN := false }

/-- `rst_n` is high again at a rising edge: the block leaves reset (70_reset_and_hazards.md R340). -/
def State.releaseReset (s : State) : State := { s with rstN := true }

/-! ### Register writes several commands share -/

/-- A command that writes an output Block: `blk(DOUT) <- B` and `TAGV <- 0`
(10_state.md R33, R46). -/
def State.putOutput (b : Block) (s : State) : State :=
  { s with dout := fileOfBlock b, tagv := false }

/-- An XXTEA command's result: the words `v` replace the first words of DBUF, and OUTLEN is set
(10_state.md R40, R50). -/
def State.putBuffer (v : List Word) (out : Nat) (s : State) : State :=
  { s with dbuf := v ++ s.dbuf.drop v.length, outlen := BitVec.ofNat 32 out }

end Sys2Proof.Machine
end

