-- ==== Sys2Proof/Machine/Cbc.lean ====
section
/-!
DEFINITION. BlockCipherCore: CBC with a zero IV and no padding (41_cbc.md R170 to R175).
-/

namespace Sys2Proof.Machine

open Sys2Proof

/-! ### The source's functions -/

/-- The chaining of CBC encryption from the previous ciphertext block `c`:
`C_i = E(K, C_{i-1} ⊕ P_i)` (41_cbc.md R170). -/
def cbcEncChain (key : Block) : Block → List Block → List Block
  | _, [] => []
  | c, p :: ps =>
    let c' := aesEncrypt key (xorBlock c p)
    c' :: cbcEncChain key c' ps

/-- The chaining of CBC decryption: `P_i = D(K, C_i) ⊕ C_{i-1}` (41_cbc.md R171). -/
def cbcDecChain (key : Block) : Block → List Block → List Block
  | _, [] => []
  | c, x :: xs => xorBlock (aesDecrypt key x) c :: cbcDecChain key x xs

/-- `cbcEnc(P, K)` on a buffer given as its blocks, IV = zeros(16) (41_cbc.md R170). -/
def cbcEnc (key : Block) (ps : List Block) : List Block := cbcEncChain key zeroBlock ps

/-- `cbcDec(C, K)` on a buffer given as its blocks, IV = zeros(16) (41_cbc.md R171). -/
def cbcDec (key : Block) (cs : List Block) : List Block := cbcDecChain key zeroBlock cs

/-- The blocks of a byte buffer, `P_i = P[16i..16i+16)` (41_cbc.md R170). -/
def blocksOfBytes (p : List Byte) : List Block :=
  (List.range (p.length / 16)).map fun i => blockOfList (p.drop (16 * i))

/-- A CBC function on byte buffers with the preconditions of 41_cbc.md R170: a 16-byte key, else
InvalidKeyLength; a length that is a positive multiple of 16, else InvalidBlockSize. -/
def cbcOnBytes (f : Block → List Block → List Block) (key p : List Byte) :
    Except ErrCode (List Byte) :=
  if key.length ≠ 16 then .error .invalidKeyLength
  else if p.length = 0 ∨ p.length % 16 ≠ 0 then .error .invalidBlockSize
  else .ok ((f (blockOfList key) (blocksOfBytes p)).flatMap bytesOfBlock)

/-! ### The commands -/

/-- A CBC session is opened (41_cbc.md R172). -/
def State.openCbc (d : Direction) (s : State) : State :=
  { s with cv := zeroBlock, blkcnt := s.len / 16, cbcDir := d, cbcAct := true }

/-- CBC_START (41_cbc.md R172). -/
def execCbcStart (d : Direction) (s : State) : Host.Outcome State Fault Refusal :=
  .next <|
    if s.sessionOpen then s.raise .sequence
    else if !s.keyLengthOk then s.raise .invalidKeyLength
    else if !s.blockSizeOk then s.raise .invalidBlockSize
    else (s.openCbc d).succeed

/-- A block of a CBC session is done: the output block, the next chaining value, and one block fewer
to come; the last block closes the session (41_cbc.md R173, R174, R175). -/
def State.cbcAdvance (out chain : Block) (s : State) : State :=
  let left := s.blkcnt - 1
  { s.putOutput out with
    cv := chain
    blkcnt := left
    cbcAct := if left = 0 then false else s.cbcAct
    cbcDir := if left = 0 then .encrypt else s.cbcDir }

/-- CBC_BLOCK in an encrypt session: `C = E(K, CV ⊕ blk(DIN))` is output and chaining value
(41_cbc.md R173). -/
def State.cbcEncryptBlock (s : State) : State :=
  let c := aesEncrypt s.aesKey (xorBlock s.cv s.dinBlock)
  s.cbcAdvance c c

/-- CBC_BLOCK in a decrypt session: `P = D(K, blk(DIN)) ⊕ CV` is the output, the ciphertext the
chaining value (41_cbc.md R174). -/
def State.cbcDecryptBlock (s : State) : State :=
  s.cbcAdvance (xorBlock (aesDecrypt s.aesKey s.dinBlock) s.cv) s.dinBlock

/-- CBC_BLOCK; CBC_DIR selects the rule (41_cbc.md R173, R174; 70_reset_and_hazards.md R345). -/
def execCbcBlock (s : State) : Host.Outcome State Fault Refusal :=
  .next <|
    if !s.cbcAct then s.raise .sequence
    else match s.cbcDir with
      | .encrypt => s.cbcEncryptBlock.succeed
      | .decrypt => s.cbcDecryptBlock.succeed

end Sys2Proof.Machine
end

