-- ==== Sys2Proof/Machine/Cmac.lean ====
section
/-!
DEFINITION. CmacEngine: the subkey deriver, the message processor and the MACT truncation
(42_cmac.md R190 to R200).
-/

namespace Sys2Proof.Machine

open Sys2Proof

/-! ### The source's functions -/

/-- `dbl(X)`: a left shift of the 128-bit big-endian integer, and XOR with 0x87 if its top bit was 1
(42_cmac.md R190). -/
def dbl (x : Block) : Block :=
  let v := intBe x
  blkBe (if v.getLsbD 127 then (v <<< 1) ^^^ 0x87 else v <<< 1)

/-- `L = E(K, zeros(16))` (42_cmac.md R192). -/
def subkeyL (key : Block) : Block := aesEncrypt key zeroBlock

/-- `K1 = dbl(L)` (42_cmac.md R192). -/
def subkey1 (key : Block) : Block := dbl (subkeyL key)

/-- `K2 = dbl(K1)` (42_cmac.md R192). -/
def subkey2 (key : Block) : Block := dbl (subkey1 key)

/-- `pad(B, r) = B[0..r) ‖ 0x80 ‖ zeros(15 − r)` (42_cmac.md R194). -/
def pad (b : Block) (r : Nat) : Block :=
  blockOfBytes fun j => if j < r then byteOf b j else if j = r then 0x80 else 0x00

/-- The number of blocks `n` of a message of ℓ bytes (42_cmac.md R195). -/
def cmacBlocks (l : Nat) : Nat := if l = 0 then 1 else (l + 15) / 16

/-- Whether the last block of a message of ℓ bytes is complete (42_cmac.md R195). -/
def cmacComplete (l : Nat) : Bool := l != 0 && l % 16 == 0

/-- The last block's material: XOR with K1 if it is complete, padded and XOR with K2 if not
(42_cmac.md R196, R200). -/
def cmacLast (k1 k2 : Block) (complete : Bool) (r : Nat) (b : Block) : Block :=
  if complete then xorBlock b k1 else xorBlock (pad b r) k2

/-- The message block at byte offset `16·i`, zero-filled past the message's end
(42_cmac.md R196). -/
def messageBlock (m : List Byte) (i : Nat) : Block := blockOfList (m.drop (16 * i))

/-- The chaining value `X_i`: `X_0 = zeros(16)`, `X_{i+1} = E(K, X_i ⊕ M_i)` (42_cmac.md R196). -/
def cmacChain (key : Block) (m : List Byte) : Nat → Block
  | 0 => zeroBlock
  | i + 1 => aesEncrypt key (xorBlock (cmacChain key m i) (messageBlock m i))

/-- `cmac(K, m)` (42_cmac.md R196). -/
def cmac (key : Block) (m : List Byte) : Block :=
  let l := m.length
  let n := cmacBlocks l
  let last := cmacLast (subkey1 key) (subkey2 key) (cmacComplete l) (l % 16) (messageBlock m (n - 1))
  aesEncrypt key (xorBlock last (cmacChain key m (n - 1)))

/-- `mact(T)[j] = T[2j+1]` for j = 0..7, in the lanes of the file MACT[0..1]
(42_cmac.md R197; 20_memory.md R80). -/
def mactOf (t : Block) : Pair Word :=
  { e0 := wordOfColumn (.build fun k => byteOf t (2 * k.val + 1))
    e1 := wordOfColumn (.build fun k => byteOf t (2 * (k.val + 4) + 1)) }

/-! ### The commands -/

/-- `blk(K1R) <- K1; blk(K2R) <- K2; SKV <- 1` (42_cmac.md R193, R198). -/
def State.putSubkeys (s : State) : State :=
  { s with
    k1r := fileOfBlock (subkey1 s.aesKey)
    k2r := fileOfBlock (subkey2 s.aesKey)
    skv := true }

/-- CMAC_SUBKEYS (42_cmac.md R193). -/
def execCmacSubkeys (s : State) : Host.Outcome State Fault Refusal :=
  .next <|
    if !s.keyLengthOk then s.raise .invalidKeyLength
    else s.putSubkeys.succeed

/-- A CMAC session for a message of LEN bytes is opened, the padding selector latched
(42_cmac.md R198). -/
def State.openCmac (s : State) : State :=
  { s.putSubkeys with
    blkcnt := BitVec.ofNat 32 (cmacBlocks s.lenNat)
    cmacCmpl := cmacComplete s.lenNat
    cmacR := BitVec.ofNat 4 (s.lenNat % 16)
    cv := zeroBlock
    cmacAct := true
    tagv := false }

/-- CMAC_START (42_cmac.md R198). -/
def execCmacStart (s : State) : Host.Outcome State Fault Refusal :=
  .next <|
    if s.sessionOpen then s.raise .sequence
    else if !s.keyLengthOk then s.raise .invalidKeyLength
    else s.openCmac.succeed

/-- CMAC_BLOCK, not the last: a full block is absorbed (42_cmac.md R199). -/
def State.cmacAbsorb (s : State) : State :=
  { s with
    cv := aesEncrypt s.aesKey (xorBlock s.cv s.dinBlock)
    blkcnt := s.blkcnt - 1 }

/-- The CMAC of the last block in DIN (42_cmac.md R200). -/
def State.cmacTag (s : State) : Block :=
  aesEncrypt s.aesKey
    (xorBlock
      (cmacLast (blockOfFile s.k1r) (blockOfFile s.k2r) s.cmacCmpl s.cmacR.toNat s.dinBlock) s.cv)

/-- CMAC_BLOCK, the last: the CMAC and the MACT are written and the session closes
(42_cmac.md R200). -/
def State.cmacFinish (s : State) : State :=
  { s with
    dout := fileOfBlock s.cmacTag
    mact := mactOf s.cmacTag
    tagv := true
    cv := zeroBlock
    blkcnt := 0
    cmacAct := false }

/-- CMAC_BLOCK: R199 if BLKCNT > 1, else R200 (42_cmac.md R199, R200;
70_reset_and_hazards.md R345). BLKCNT = 0 cannot arise here (log 11). -/
def execCmacBlock (s : State) : Host.Outcome State Fault Refusal :=
  .next <|
    if !s.cmacAct then s.raise .sequence
    else if 1 < s.blkcnt.toNat then s.cmacAbsorb.succeed
    else s.cmacFinish.succeed

end Sys2Proof.Machine
end

