-- ==== Sys2Proof/Machine/Control.lean ====
section
/-!
DEFINITION. The control commands NOP, ABORT and SRESET (44_control.md R280 to R282).
-/

namespace Sys2Proof.Machine

open Sys2Proof

/-- NOP: nothing besides the common commit effects (44_control.md R280). -/
def execNop (s : State) : Host.Outcome State Fault Refusal := .next s.succeed

/-- Any open session is closed (44_control.md R281). -/
def State.closeSession (s : State) : State :=
  { s with
    cbcAct := false
    cbcDir := .encrypt
    cmacAct := false
    blkcnt := 0
    cv := .replicate (.replicate 0)
    cmacCmpl := false
    cmacR := 0 }

/-- ABORT; legal with no session open (44_control.md R281). -/
def execAbort (s : State) : Host.Outcome State Fault Refusal := .next s.closeSession.succeed

/-- SRESET: the reset effect at the CMD write, a pending command cancelled, no commit of its own
(44_control.md R282). -/
def execSreset (s : State) : Host.Outcome State Fault Refusal := .next s.resetEffect

end Sys2Proof.Machine
end

