-- ==== Sys2Proof/Machine/SingleBlock.lean ====
section
/-!
DEFINITION. The single-block commands AES_ENC and AES_DEC (40_aes_core.md R143, R144).
-/

namespace Sys2Proof.Machine

open Sys2Proof

/-- AES_ENC (40_aes_core.md R143). -/
def execAesEnc (s : State) : Host.Outcome State Fault Refusal :=
  .next <|
    if !s.keyLengthOk then s.raise .invalidKeyLength
    else (s.putOutput (aesEncrypt s.aesKey s.dinBlock)).succeed

/-- AES_DEC (40_aes_core.md R144). -/
def execAesDec (s : State) : Host.Outcome State Fault Refusal :=
  .next <|
    if !s.keyLengthOk then s.raise .invalidKeyLength
    else (s.putOutput (aesDecrypt s.aesKey s.dinBlock)).succeed

end Sys2Proof.Machine
end

