-- ==== Sys2Proof/Machine/XxteaCore.lean ====
section
/-!
DEFINITION. XxteaCipher: the round function, the word transforms and the byte marshalling
(43_xxtea.md R230 to R241). All arithmetic is on 32-bit Words, modulo 2^32.
-/

namespace Sys2Proof.Machine

open Sys2Proof

/-- `DELTA` (43_xxtea.md R230). -/
def delta : Word := 0x9E3779B9

/-- The round selector `e = (sum >>> 2) & 3` (43_xxtea.md R233). -/
def selector (sum : Word) : Word := (sum >>> 2) &&& 3

/-- The key index `(p & 3) ^ e`, in 0..3 (43_xxtea.md R231). -/
def keyIndex (p : Nat) (e : Word) : Fin 4 := Fin.ofNat 4 ((BitVec.ofNat 32 p &&& 3) ^^^ e).toNat

/-- The mixing function MX (43_xxtea.md R231). -/
def mx (sum y z : Word) (p : Nat) (e : Word) (k : WordFile) : Word :=
  (((z >>> 5) ^^^ (y <<< 2)) + ((y >>> 3) ^^^ (z <<< 4))) ^^^
    ((sum ^^^ y) + (k.get (keyIndex p e) ^^^ z))

/-- The round count for `N ≥ 2` words (43_xxtea.md R232). -/
def rounds (n : Nat) : Nat := 6 + 52 / n

/-- Word `i` of a word array inside it. -/
def wordAt (v : List Word) (i : Nat) : Word := v.getD i 0

/-! ### Encryption -/

/-- One pass of the inner loop of encryption at index `p`, on the array and `z`:
`y = v[p+1]; v[p] = v[p] + MX; z = v[p]` (43_xxtea.md R234). -/
def encryptStep (k : WordFile) (sum : Word) (vz : List Word × Word) (p : Nat) :
    List Word × Word :=
  let x := wordAt vz.1 p + mx sum (wordAt vz.1 (p + 1)) vz.2 p (selector sum) k
  (vz.1.set p x, x)

/-- One round of encryption on `n + 1` words: the inner loop for p = 0 to n−1, then the last word with
`y = v[0]` (43_xxtea.md R234). -/
def xxteaEncryptRound (k : WordFile) (n : Nat) (sum : Word) (vz : List Word × Word) :
    List Word × Word :=
  let r := (List.range n).foldl (encryptStep k sum) vz
  let x := wordAt r.1 n + mx sum (wordAt r.1 0) r.2 n (selector sum) k
  (r.1.set n x, x)

/-- `q` rounds of encryption from the sum `sum`, each adding DELTA first (43_xxtea.md R234). -/
def encryptLoop (k : WordFile) (n : Nat) : Nat → Word → List Word × Word → List Word × Word
  | 0, _, vz => vz
  | q + 1, sum, vz => encryptLoop k n q (sum + delta) (xxteaEncryptRound k n (sum + delta) vz)

/-- `xxteaEncryptWords(v, k)`; 0 or 1 words are unchanged (43_xxtea.md R234). -/
def xxteaEncryptWords (v : List Word) (k : WordFile) : List Word :=
  let n := v.length - 1
  if n < 1 then v else (encryptLoop k n (rounds (n + 1)) 0 (v, wordAt v n)).1

/-! ### Decryption -/

/-- One pass of the inner loop of decryption at index `p ≥ 1`, on the array and `y`:
`z = v[p-1]; v[p] = v[p] - MX; y = v[p]` (43_xxtea.md R235). -/
def decryptStep (k : WordFile) (sum : Word) (vy : List Word × Word) (p : Nat) :
    List Word × Word :=
  let x := wordAt vy.1 p - mx sum vy.2 (wordAt vy.1 (p - 1)) p (selector sum) k
  (vy.1.set p x, x)

/-- One round of decryption on `n + 1` words: the inner loop for p = n down to 1, then word 0 with
`z = v[n]` (43_xxtea.md R235). -/
def xxteaDecryptRound (k : WordFile) (n : Nat) (sum : Word) (vy : List Word × Word) :
    List Word × Word :=
  let r := ((List.range n).map (· + 1)).reverse.foldl (decryptStep k sum) vy
  let x := wordAt r.1 0 - mx sum r.2 (wordAt r.1 n) 0 (selector sum) k
  (r.1.set 0 x, x)

/-- The loop `while sum != 0`, each pass ending with `sum = sum - DELTA`. The first argument bounds the
passes; the loop runs exactly q times (43_xxtea.md R235, R236; log 13). -/
def decryptLoop (k : WordFile) (n : Nat) : Nat → Word → List Word × Word → List Word × Word
  | 0, _, vy => vy
  | q + 1, sum, vy =>
    if sum = 0 then vy else decryptLoop k n q (sum - delta) (xxteaDecryptRound k n sum vy)

/-- `xxteaDecryptWords(v, k)`; 0 or 1 words are unchanged, and y starts as v[0]
(43_xxtea.md R235). -/
def xxteaDecryptWords (v : List Word) (k : WordFile) : List Word :=
  let n := v.length - 1
  let q := rounds (n + 1)
  if n < 1 then v else (decryptLoop k n q (BitVec.ofNat 32 q * delta) (v, wordAt v 0)).1

/-! ### Byte marshalling -/

/-- `toWords(d, withLength)` (43_xxtea.md R237). -/
def toWords (d : List Byte) (withLength : Bool) : List Word :=
  let v := wordsOfBytes d (wordsFor d.length)
  if withLength then v ++ [BitVec.ofNat 32 d.length] else v

/-- The stored length of a word array: its last word, unsigned (43_xxtea.md R238). -/
def storedLength (v : List Word) : Nat := (wordAt v (v.length - 1)).toNat

/-- `toBytes(v, withLength)`; none is the failure CorruptedCiphertext (43_xxtea.md R238). -/
def toBytes (v : List Word) (withLength : Bool) : Option (List Byte) :=
  if withLength then
    if 4 * v.length < storedLength v then none else some ((bytesOfWords v).take (storedLength v))
  else some (bytesOfWords v)

/-- `xkey(kb)`: bytes beyond 16 dropped, short keys zero-padded, little-endian (43_xxtea.md R239). -/
def xkeyOf (kb : List Byte) : WordFile := .build fun j => wordOfBytes (kb.take 16) j.val

/-- `encryptBytes(d, kb)` (43_xxtea.md R240). -/
def encryptBytes (d kb : List Byte) : List Byte :=
  if d.length = 0 then d
  else bytesOfWords (xxteaEncryptWords (toWords d true) (xkeyOf kb))

/-- `decryptBytes(d, kb)`; none is the failure CorruptedCiphertext (43_xxtea.md R241). -/
def decryptBytes (d kb : List Byte) : Option (List Byte) :=
  if d.length = 0 then some d
  else toBytes (xxteaDecryptWords (toWords d false) (xkeyOf kb)) true

end Sys2Proof.Machine
end

