-- ==== Sys2Proof/Machine/Xxtea.lean ====
section
/-!
DEFINITION. The XXTEA commands, in place on DBUF with the key XKEY (43_xxtea.md R242 to R247).
-/

namespace Sys2Proof.Machine

open Sys2Proof

/-- `for j in b .. 4w-1: DBUF byte j <- 0x00` (43_xxtea.md R243, R245). -/
def zeroFill (m : List Word) (b w : Nat) : List Word :=
  (List.range (4 * w - b)).foldl (fun m t => memSetByte m (b + t) 0x00) m

/-- XXTEA_ENCW: the raw word transform on DBUF[0..LEN−1] (43_xxtea.md R242). -/
def execXxteaEncw (s : State) : Host.Outcome State Fault Refusal :=
  .next <|
    if !s.xkv then s.raise .invalidKey
    else if s.xw < s.lenNat then s.raise .lengthOverflow
    else (s.putBuffer (xxteaEncryptWords (s.dbuf.take s.lenNat) s.xkey) (4 * s.lenNat)).succeed

/-- The words XXTEA_ENCB transforms for `b ≥ 1` bytes: the data words, zero-filled past byte `b`, and
the length header (43_xxtea.md R243). -/
def encbInput (m : List Word) (b : Nat) : List Word :=
  (zeroFill m b (wordsFor b)).take (wordsFor b) ++ [BitVec.ofNat 32 b]

/-- XXTEA_ENCB: `encryptBytes` on the first LEN bytes of DBUF (43_xxtea.md R243). -/
def execXxteaEncb (s : State) : Host.Outcome State Fault Refusal :=
  .next <|
    if !s.xkv then s.raise .invalidKey
    else if s.lenNat = 0 then (s.putBuffer [] 0).succeed
    else if s.xw < wordsFor s.lenNat + 1 then s.raise .lengthOverflow
    else
      (s.putBuffer (xxteaEncryptWords (encbInput s.dbuf s.lenNat) s.xkey)
        (4 * (wordsFor s.lenNat + 1))).succeed

/-- XXTEA_DECW: the raw word transform on DBUF[0..LEN−1] (43_xxtea.md R244). -/
def execXxteaDecw (s : State) : Host.Outcome State Fault Refusal :=
  .next <|
    if !s.xkv then s.raise .invalidKey
    else if s.xw < s.lenNat then s.raise .lengthOverflow
    else (s.putBuffer (xxteaDecryptWords (s.dbuf.take s.lenNat) s.xkey) (4 * s.lenNat)).succeed

/-- The words XXTEA_DECB decrypts for `b ≥ 1` bytes: the data words, zero-filled past byte `b`
(43_xxtea.md R245). -/
def decbInput (m : List Word) (b : Nat) : List Word :=
  (zeroFill m b (wordsFor b)).take (wordsFor b)

/-- XXTEA_DECB: `decryptBytes` on the first LEN bytes of DBUF. If the stored length exceeds the
buffer, the words are zeroed and OUTLEN cleared before the error is raised (43_xxtea.md R245). -/
def execXxteaDecb (s : State) : Host.Outcome State Fault Refusal :=
  .next <|
    if !s.xkv then s.raise .invalidKey
    else if s.lenNat = 0 then (s.putBuffer [] 0).succeed
    else if s.xw < wordsFor s.lenNat then s.raise .lengthOverflow
    else
      let v := xxteaDecryptWords (decbInput s.dbuf s.lenNat) s.xkey
      if 4 * wordsFor s.lenNat < storedLength v then
        (s.putBuffer (List.replicate (wordsFor s.lenNat) 0) 0).raise .corruptedCiphertext
      else (s.putBuffer v (storedLength v)).succeed

end Sys2Proof.Machine
end

