-- ==== Sys2Proof/Machine/Dispatch.lean ====
section
/-!
DEFINITION. The meaning of each command (30_encoding.md R107), one arm per constructor of `Instr`.
`exec i s` is the whole commit of command `i` in state `s` (70_reset_and_hazards.md R345); for
SRESET, which has no commit, it is the effect at the CMD write (44_control.md R282).
-/

namespace Sys2Proof.Machine

open Sys2Proof

def exec (i : Instr) (s : State) : Host.Outcome State Fault Refusal :=
  match i with
  | .nop => Sys2Proof.Machine.execNop s
  | .aesEnc => Sys2Proof.Machine.execAesEnc s
  | .aesDec => Sys2Proof.Machine.execAesDec s
  | .cbcStart d => Sys2Proof.Machine.execCbcStart d s
  | .cbcBlock => Sys2Proof.Machine.execCbcBlock s
  | .cmacSubkeys => Sys2Proof.Machine.execCmacSubkeys s
  | .cmacStart => Sys2Proof.Machine.execCmacStart s
  | .cmacBlock => Sys2Proof.Machine.execCmacBlock s
  | .xxteaEncw => Sys2Proof.Machine.execXxteaEncw s
  | .xxteaEncb => Sys2Proof.Machine.execXxteaEncb s
  | .xxteaDecw => Sys2Proof.Machine.execXxteaDecw s
  | .xxteaDecb => Sys2Proof.Machine.execXxteaDecb s
  | .abort => Sys2Proof.Machine.execAbort s
  | .sreset => Sys2Proof.Machine.execSreset s

end Sys2Proof.Machine
end

