-- ==== Sys2Proof/Machine/Engine.lean ====
section
/-!
DEFINITION. What one event does (20_memory.md R87): the engine's turn, in which the pending command is
decoded and commits (70_reset_and_hazards.md R345), and the host's write, in which SRESET takes
effect (30_encoding.md R106).
-/

namespace Sys2Proof.Machine

open Sys2Proof

/-- A command word takes effect: the command it decodes to, or the error of an illegal word
(70_reset_and_hazards.md R345; 30_encoding.md R105; log 12). -/
def runWord (w : Word) (s : State) : Host.Outcome State Fault Refusal :=
  match decode w with
  | .ok i => exec i s
  | .error _ => .next (s.raise .illegalCommand)

/-- The engine's turn: the commit is enabled exactly when a command is pending
(70_reset_and_hazards.md R345), and never while the block is held in reset (R340). That
the pending word is SRESET's cannot arise (log 10). -/
def engineTurn (s : State) : Host.Outcome State Fault Refusal :=
  if s.rstN then
    match s.pend with
    | none => .next s
    | some w => runWord w s
  else .next s

/-- `BusWrite`: the SRESET word takes effect at once, whatever BUSY is (30_encoding.md R106,
44_control.md R282); every other write is dropped or takes effect (20_memory.md R76). While `rst_n` =
0 the block ignores it (70_reset_and_hazards.md R340). -/
def busWrite (addr : BitVec 10) (v : Word) (s : State) : Host.Outcome State Fault Refusal :=
  if s.rstN then
    if s.regOf addr = .cmd ∧ v = sresetWord then exec .sreset s
    else .next (hostWriteReg s v (s.regOf addr))
  else .next s

/-- What one event does (20_memory.md R87; 70_reset_and_hazards.md R340, R345). -/
def runEvent (e : Event) (s : State) : Host.Outcome State Fault Refusal :=
  match e with
  | .busRead addr => .next (s.busRead addr)
  | .busWrite addr v => busWrite addr v s
  | .engine => engineTurn s
  | .resetLow => .next s.holdReset
  | .resetHigh => .next s.releaseReset

/-- The state in which the next event runs: it is taken off the list, and `rdata` is no longer valid
(20_memory.md R71). -/
def State.takeEvent (s : State) : State := { s with events := s.events.tail, rdata := none }

/-- The next event. When none is left to come, it is the engine's turn: every accepted command commits
at last (70_reset_and_hazards.md R351, log 3). -/
def State.nextEvent (s : State) : Event := s.events.headD .engine

/-- The state in which the very next event runs the command word `w`: the SRESET word as a host write
to CMD, where it is decoded (30_encoding.md R106); every other word accepted and pending, with the
engine's turn next (70_reset_and_hazards.md R344, R345; log 4). -/
def State.loadWord (w : Word) (s : State) : State :=
  if w = sresetWord then { s with rstN := true, events := .busWrite 0 w :: s.events }
  else { s.accept w with rstN := true, events := .engine :: s.events }

end Sys2Proof.Machine
end

