-- ==== Sys2Proof/Machine/Step.lean ====
section
/-!
DEFINITION. One step: the next event of the one total order of host accesses, engine commits and
resets (20_memory.md R87).
-/

namespace Sys2Proof.Machine

open Sys2Proof

/-- One step of the block: the next event, or the engine's turn when none is left to come. -/
def step (s : State) : Host.Outcome State Fault Refusal := runEvent s.nextEvent s.takeEvent

/-- `s` with the command whose `nbits` bits are `w` placed where the next step takes its command from
(log 4). -/
def State.withFetchWord (s : State) (nbits w : Nat) : State := s.loadWord (tableWord nbits w)

end Sys2Proof.Machine
end

