-- ==== Sys2Proof/Machine/HostProgram.lean ====
section
/-!
DEFINITION. The notation of host programs: one bus operation per line, the pseudo-instructions and
their expansions (30_encoding.md R111, R112). The host runs the lines; the block sees only the bus
accesses, the events `lineEvent` gives (log 8).
-/

namespace Sys2Proof.Machine

open Sys2Proof

/-- The byte offset of a named register (10_state.md R23); none for `reserved`, which has no name. -/
def offsetOfReg : Reg → Option Nat
  | .cmd => some 0x000
  | .status => some 0x004
  | .irqen => some 0x008
  | .keycfg => some 0x00C
  | .len => some 0x010
  | .outlen => some 0x014
  | .blkcnt => some 0x018
  | .caps => some 0x01C
  | .akey j => some (0x020 + 4 * j.val)
  | .xkey j => some (0x030 + 4 * j.val)
  | .din j => some (0x040 + 4 * j.val)
  | .dout j => some (0x050 + 4 * j.val)
  | .k1r j => some (0x060 + 4 * j.val)
  | .k2r j => some (0x070 + 4 * j.val)
  | .mact j => some (0x080 + 4 * j.val)
  | .dbuf i => some (0x100 + 4 * i)
  | .reserved => none

/-- One line of a host program (30_encoding.md R111). -/
inductive HostLine where
  /-- `WR <reg>, <value>`. -/
  | wr (r : Reg) (v : Word)
  /-- `RD <reg> -> %<name>`. -/
  | rd (r : Reg) (name : String)
  /-- `BNZ %<name>, <mask>, <label>`, a branch of the host to a line. -/
  | bnz (name : String) (mask : Word) (target : Nat)
  deriving DecidableEq, Repr

/-- The bus address of a named register. -/
def addrOfReg (r : Reg) : Option (BitVec 10) := (offsetOfReg r).map fun off => BitVec.ofNat 10 (off / 4)

/-- The bus access of a line; `BNZ` is a step of the host and makes none (30_encoding.md R111). -/
def lineEvent : HostLine → Option Event
  | .wr r v => (addrOfReg r).map fun a => .busWrite a v
  | .rd r _ => (addrOfReg r).map .busRead
  | .bnz _ _ _ => none

/-- Whether `BNZ` branches: `(%<name> & <mask>) != 0` (30_encoding.md R111). -/
def branchTaken (value mask : Word) : Bool := value &&& mask != 0

/-- The four-word files a Block can be written to or read from (30_encoding.md R112). -/
inductive FileName where
  /-- AKEY0 to AKEY3. -/
  | akey
  /-- XKEY0 to XKEY3. -/
  | xkey
  /-- DIN0 to DIN3. -/
  | din
  /-- DOUT0 to DOUT3. -/
  | dout
  /-- K1R0 to K1R3. -/
  | k1r
  /-- K2R0 to K2R3. -/
  | k2r
  deriving DecidableEq, Repr

/-- Word `j` of a file. -/
def fileReg : FileName → Fin 4 → Reg
  | .akey, j => .akey j
  | .xkey, j => .xkey j
  | .din, j => .din j
  | .dout, j => .dout j
  | .k1r, j => .k1r j
  | .k2r, j => .k2r j

/-- The pseudo-instructions (30_encoding.md R112). -/
inductive Pseudo where
  /-- `CMD <mnemonic>`, with `CBC_START enc` and `CBC_START dec`. -/
  | cmd (i : Instr)
  /-- `WAIT`: poll STATUS until BUSY = 0. -/
  | wait
  /-- `WRBLK <F>, <X>`. -/
  | wrblk (f : FileName) (x : Block)
  /-- `RDBLK <F> -> %<name>`, word `j` under the name with its digit appended. -/
  | rdblk (f : FileName) (name : String)
  /-- `WRBUF <i>, <hex bytes b>`. -/
  | wrbuf (i : Nat) (b : List Byte)
  /-- `CHECK`. -/
  | check
  deriving DecidableEq, Repr

/-- The expansion of a pseudo-instruction whose first line is line `at_` of the program
(30_encoding.md R112). -/
def expand (at_ : Nat) : Pseudo → List HostLine
  | .cmd i => [.wr .cmd (encode i)]
  | .wait => [.rd .status "s", .bnz "s" 0x1 at_]
  | .wrblk f x =>
    [.wr (fileReg f 0) (fileOfBlock x).e0, .wr (fileReg f 1) (fileOfBlock x).e1,
      .wr (fileReg f 2) (fileOfBlock x).e2, .wr (fileReg f 3) (fileOfBlock x).e3]
  | .rdblk f name =>
    [.rd (fileReg f 0) (name ++ "0"), .rd (fileReg f 1) (name ++ "1"),
      .rd (fileReg f 2) (name ++ "2"), .rd (fileReg f 3) (name ++ "3")]
  | .wrbuf i b =>
    (List.range (wordsFor b.length)).map fun t => .wr (.dbuf (i + t)) (wordOfBytes b t)
  | .check => [.rd .status "s"]

end Sys2Proof.Machine
end

