-- ==== Sys2Proof/Safety.lean ====
section
/-!
DEFINITION. What counts as a safe state and a safe run: the invariant every step keeps, and the two
halves of the state that the two independent subsystems own (00_scope.md R4).
-/

namespace Sys2Proof.Machine

open Sys2Proof

/-- The invariant of the block. Each field names the rule it comes from. -/
structure State.Inv (s : State) : Prop where
  /-- The buffer has a legal capacity (00_scope.md R7). -/
  bufferLegal : Memory.wf s.dbuf = true
  /-- At most one session is open (60_exceptions.md R308, D15). -/
  oneSession : ¬(s.cbcAct = true ∧ s.cmacAct = true)
  /-- BLKCNT ≥ 1 whenever a session is open, and 0 whenever none is (10_state.md R41). -/
  blocksLeft : s.sessionOpen = true ↔ s.blkcnt ≠ 0
  /-- CBC_DIR is 0 whenever CBC_ACT is (10_state.md R30). -/
  dirCleared : s.cbcAct = false → s.cbcDir = .encrypt
  /-- A session open with AKLEN ≠ 16 cannot arise (60_exceptions.md R310). -/
  sessionKey : s.sessionOpen = true → s.aklen = 16
  /-- ERR is set and cleared together with ERRCODE (10_state.md R27, R34). -/
  errReport : s.err = (s.errcode != .ok)
  /-- Code 4 is never raised with BC = AES-128 (60_exceptions.md R305). -/
  noCipherFailure : s.errcode ≠ .underlyingCipherFailure
  /-- While a command is pending, DONE, ERR and ERRCODE are clear (70_reset_and_hazards.md R344). -/
  busyClears : s.busy = true → s.done = false ∧ s.err = false ∧ s.errcode = .ok
  /-- CMD names the pending command, which is never the SRESET word
  (10_state.md R24, 30_encoding.md R106). -/
  pendIsCmd : ∀ w, s.pend = some w → s.cmd = w ∧ w ≠ sresetWord
  /-- SKV = 1 means that K1R and K2R hold the subkeys of the current AKEY (10_state.md R32). -/
  subkeysValid : s.skv = true →
    blockOfFile s.k1r = subkey1 s.aesKey ∧ blockOfFile s.k2r = subkey2 s.aesKey
  /-- An open CMAC session has its subkeys in K1R and K2R, and no tag (42_cmac.md R198, R200). -/
  cmacReady : s.cmacAct = true → s.skv = true ∧ s.tagv = false
  /-- TAGV = 1 means that MACT holds the tag of the CMAC in DOUT (10_state.md R33). -/
  tagValid : s.tagv = true → s.mact = mactOf (blockOfFile s.dout)
  /-- A complete last block leaves no remainder (42_cmac.md R195, R198). -/
  completeNoRest : s.cmacCmpl = true → s.cmacR = 0
  /-- The XXTEA result fits the buffer (10_state.md R40, 60_exceptions.md R309). -/
  outlenFits : s.outlen.toNat ≤ 4 * s.xw
  /-- While `rst_n` = 0 the block holds its reset state (70_reset_and_hazards.md R340). -/
  heldInReset : s.rstN = false →
    s = { State.reset with
          dbuf := s.dbuf, rstN := false, rdata := s.rdata, events := s.events, draws := s.draws }

/-- The state of the AES subsystem: its configuration, keys, operands, session and results
(00_scope.md R4). -/
structure AesPart where
  /-- CBC_ACT, CBC_DIR, CMAC_ACT. -/
  session : Bool × Direction × Bool
  /-- SKV, TAGV. -/
  valid : Bool × Bool
  /-- AKLEN, AKEY. -/
  key : BitVec 8 × WordFile
  /-- BLKCNT. -/
  blkcnt : Word
  /-- DIN. -/
  din : WordFile
  /-- DOUT. -/
  dout : WordFile
  /-- K1R, K2R. -/
  subkeys : WordFile × WordFile
  /-- MACT. -/
  mact : Pair Word
  /-- CV, CMAC_CMPL, CMAC_R. -/
  hidden : Block × Bool × BitVec 4
  deriving DecidableEq, Repr

/-- The AES subsystem's part of a state. -/
def State.aesPart (s : State) : AesPart where
  session := (s.cbcAct, s.cbcDir, s.cmacAct)
  valid := (s.skv, s.tagv)
  key := (s.aklen, s.akey)
  blkcnt := s.blkcnt
  din := s.din
  dout := s.dout
  subkeys := (s.k1r, s.k2r)
  mact := s.mact
  hidden := (s.cv, s.cmacCmpl, s.cmacR)

/-- The state of the XXTEA subsystem: its key and key-valid bit, its buffer and result length
(00_scope.md R4). LEN is an operand of both subsystems and no command writes it (10_state.md R39). -/
structure XxteaPart where
  /-- XKV, XKEY. -/
  key : Bool × WordFile
  /-- DBUF. -/
  dbuf : Memory
  /-- OUTLEN. -/
  outlen : Word
  deriving DecidableEq, Repr

/-- The XXTEA subsystem's part of a state. -/
def State.xxteaPart (s : State) : XxteaPart where
  key := (s.xkv, s.xkey)
  dbuf := s.dbuf
  outlen := s.outlen

/-- The commands of the AES subsystem (00_scope.md R4). -/
def aesCommand : Instr → Bool
  | .nop => false
  | .aesEnc => true
  | .aesDec => true
  | .cbcStart _ => true
  | .cbcBlock => true
  | .cmacSubkeys => true
  | .cmacStart => true
  | .cmacBlock => true
  | .xxteaEncw => false
  | .xxteaEncb => false
  | .xxteaDecw => false
  | .xxteaDecb => false
  | .abort => false
  | .sreset => false

/-- The commands of the XXTEA subsystem (00_scope.md R4). -/
def xxteaCommand : Instr → Bool
  | .nop => false
  | .aesEnc => false
  | .aesDec => false
  | .cbcStart _ => false
  | .cbcBlock => false
  | .cmacSubkeys => false
  | .cmacStart => false
  | .cmacBlock => false
  | .xxteaEncw => true
  | .xxteaEncb => true
  | .xxteaDecw => true
  | .xxteaDecb => true
  | .abort => false
  | .sreset => false

/-- `k` steps, stopping at the first fault or refusal (the host's `Core.run` on this machine). -/
def runSteps : Nat → State → Host.Outcome State Fault Refusal
  | 0, s => .next s
  | k + 1, s =>
    match step s with
    | .next t => runSteps k t
    | .fault r => .fault r
    | .refused r => .refused r

/-- A step that neither faults nor is refused. -/
def stepSafe (s : State) : Prop := ∃ t, step s = .next t

/-- Every row of the table of 70_reset_and_hazards.md R341. DBUF is unspecified there, so nothing is
said of its words. -/
structure State.AtReset (s : State) : Prop where
  /-- CMD. -/
  cmd : readReg s .cmd = 0x00000000
  /-- STATUS: every flag and ERRCODE. -/
  status : statusWord s = 0
  /-- IRQEN. -/
  irqen : readReg s .irqen = 0
  /-- KEYCFG.AKLEN, KEYCFG.XKV. -/
  keycfg : s.aklen = 0 ∧ s.xkv = false
  /-- LEN, OUTLEN, BLKCNT. -/
  counts : s.len = 0 ∧ s.outlen = 0 ∧ s.blkcnt = 0
  /-- CAPS, a constant. -/
  caps : Memory.wf s.dbuf = true → readReg s .caps = BitVec.ofNat 32 s.xw
  /-- AKEY[0..3], XKEY[0..3]. -/
  keys : ∀ j, s.akey.get j = 0 ∧ s.xkey.get j = 0
  /-- DIN[0..3], DOUT[0..3]. -/
  blocks : ∀ j, s.din.get j = 0 ∧ s.dout.get j = 0
  /-- K1R[0..3], K2R[0..3]. -/
  subkeys : ∀ j, s.k1r.get j = 0 ∧ s.k2r.get j = 0
  /-- MACT[0..1]. -/
  mact : ∀ j, s.mact.get j = 0
  /-- CV. -/
  cv : ∀ j, byteOf s.cv j = 0
  /-- CMAC_CMPL, CMAC_R. -/
  padding : s.cmacCmpl = false ∧ s.cmacR = 0
  /-- PEND. -/
  pend : s.pend = none
  /-- The output `irq`. -/
  irq : s.irq = false

/-- The code of the first check that fails, in the order of 60_exceptions.md R310. -/
def firstError : List (Bool × ErrCode) → ErrCode
  | [] => .ok
  | (fails, c) :: rest => if fails then c else firstError rest

/-- The checks of each legal command in the order of 60_exceptions.md R310: sequence, key, length,
result. (The illegal word, level 1, names no command.) `none` for SRESET, which cannot fail. -/
def checksOf (s : State) : Instr → List (Bool × ErrCode)
  | .nop => []
  | .aesEnc => [(s.aklen != 16, .invalidKeyLength)]
  | .aesDec => [(s.aklen != 16, .invalidKeyLength)]
  | .cbcStart _ =>
    [(s.cbcAct || s.cmacAct, .sequence), (s.aklen != 16, .invalidKeyLength),
      (s.len == 0 || s.len.toNat % 16 != 0, .invalidBlockSize)]
  | .cbcBlock => [(!s.cbcAct, .sequence)]
  | .cmacSubkeys => [(s.aklen != 16, .invalidKeyLength)]
  | .cmacStart => [(s.cbcAct || s.cmacAct, .sequence), (s.aklen != 16, .invalidKeyLength)]
  | .cmacBlock => [(!s.cmacAct, .sequence)]
  | .xxteaEncw => [(!s.xkv, .invalidKey), (decide (s.xw < s.len.toNat), .lengthOverflow)]
  | .xxteaEncb =>
    [(!s.xkv, .invalidKey),
      (s.len != 0 && decide (s.xw < (s.len.toNat + 3) / 4 + 1), .lengthOverflow)]
  | .xxteaDecw => [(!s.xkv, .invalidKey), (decide (s.xw < s.len.toNat), .lengthOverflow)]
  | .xxteaDecb =>
    [(!s.xkv, .invalidKey), (decide (s.xw < (s.len.toNat + 3) / 4), .lengthOverflow),
      (s.len != 0 &&
        decide (4 * ((s.len.toNat + 3) / 4) <
          storedLength (xxteaDecryptWords (decbInput s.dbuf s.len.toNat) s.xkey)),
        .corruptedCiphertext)]
  | .abort => []
  | .sreset => []

/-- The success report of a commit (70_reset_and_hazards.md R345 with outcome code 0). -/
def successReport (s : State) : State :=
  { s with pend := none, done := true, err := false, errcode := .ok }

/-- The error report of a commit with code `c` (60_exceptions.md R311). -/
def errorReport (c : ErrCode) (s : State) : State :=
  { s with pend := none, done := true, err := true, errcode := c }

/-- Every word with opcode `op` and any bit of [31:8] set is illegal: the first check of a command
without an M bit (30_encoding.md R104). -/
def onlyPlainWord (op : BitVec 8) : Prop :=
  ∀ w : Word, w.setWidth 8 = op → w >>> 8 ≠ 0 → legalWord w = false

/-- Every word with opcode `op` and any bit of [31:9] set is illegal: the first check of a command
with an M bit (30_encoding.md R104). -/
def onlyModifierWords (op : BitVec 8) : Prop :=
  ∀ w : Word, w.setWidth 8 = op → w >>> 9 ≠ 0 → legalWord w = false

/-- A block command run once per block, the block first put into DIN as four accepted writes leave
it; the answer is the output Block in DOUT after each command, and the last state
(41_cbc.md R176, 42_cmac.md R201). -/
def feedBlocks (i : Instr) : State → List Block → Option (List Block × State)
  | s, [] => some ([], s)
  | s, b :: bs =>
    match exec i { s with din := fileOfBlock b } with
    | .next t => (feedBlocks i t bs).map fun r => (blockOfFile t.dout :: r.1, r.2)
    | .fault _ => none
    | .refused _ => none

/-- The block `b` carries the bytes of the message `m` from offset `16·i` on; bytes past the end of
the message may be anything (42_cmac.md R201). -/
def carries (m : List Byte) (i : Nat) (b : Block) : Prop :=
  ∀ j, j < 16 → 16 * i + j < m.length → byteOf b j = m.getD (16 * i + j) 0

end Sys2Proof.Machine
end

