-- ==== Sys2Proof/Certificates/Slice0/Obligations.lean ====
section
/-!
DEFINITION. The statements for the provers. OBLIGATIONS.json lists them with the rules they cite.
-/

open Sys2Proof Sys2Proof.Machine

/-! ### Reset -/

/-- R341: every row of the reset table holds after both resets and in `State.reset`; DBUF keeps its
capacity and nothing is said of its words (they are free values, log 1). -/
def Obligations.ResetLeavesTheStatedValues : Prop :=
  State.reset.AtReset ∧
  ∀ s : State,
    (∃ t, exec .sreset s = .next t ∧ t.AtReset ∧ t.xw = s.xw) ∧
    (∀ es, s.events = .resetLow :: es →
      ∃ t, step s = .next t ∧ t.AtReset ∧ t.xw = s.xw ∧ t.rstN = false ∧ t.events = es)

/-- R340: while `rst_n` = 0 the block ignores every bus write and every engine turn, reads return 0, a
hardware reset cancels the pending command, the block leaves reset when `rst_n` is high again, and in
every state of the invariant `irq` is 0. The two reset events are the model's form (log 6). -/
def Obligations.HeldInResetIgnoresAccesses : Prop :=
  ∀ (s : State) (e : Event) (es : List Event), s.events = e :: es → s.rstN = false →
    (∀ a v, e = .busWrite a v → step s = .next { s with events := es, rdata := none }) ∧
    (∀ a, e = .busRead a → step s = .next { s with events := es, rdata := some 0 }) ∧
    (e = .engine → step s = .next { s with events := es, rdata := none }) ∧
    (e = .resetHigh → step s = .next { s with events := es, rdata := none, rstN := true }) ∧
    (e = .resetLow → ∃ t, step s = .next t ∧ t.pend = none ∧ t.rstN = false) ∧
    (s.Inv → s.irq = false)

/-- R282, R106: a write of 0x0000000F to CMD takes effect at once whatever BUSY is, performs the reset
effect, cancels the pending command, sets no DONE and raises no interrupt; every other word with
OP = 0x0F is illegal. -/
def Obligations.SresetActsAtTheWrite : Prop :=
  decode 0x0000000F = .ok .sreset ∧ onlyPlainWord 0x0F ∧
  ∀ (s : State) (es : List Event), s.rstN = true → s.events = .busWrite 0 0x0000000F :: es →
    ∃ t, step s = .next t ∧ exec .sreset { s with events := es, rdata := none } = .next t ∧
      t.AtReset ∧ t.pend = none ∧ t.done = false ∧ t.wdrop = false ∧ readReg t .cmd = 0 ∧
      t.irq = false ∧ t.xw = s.xw ∧ t.rstN = true ∧ t.events = es

/-! ### Encoding -/

/-- R107: the words of the opcode map, and every other opcode value reserved. -/
def Obligations.OpcodeMapWordsDecode : Prop :=
  (decode 0x00000000 = .ok .nop ∧ decode 0x00000001 = .ok .aesEnc ∧
    decode 0x00000002 = .ok .aesDec ∧ decode 0x00000003 = .ok (.cbcStart .encrypt) ∧
    decode 0x00000103 = .ok (.cbcStart .decrypt) ∧ decode 0x00000004 = .ok .cbcBlock ∧
    decode 0x00000005 = .ok .cmacSubkeys ∧ decode 0x00000006 = .ok .cmacStart ∧
    decode 0x00000007 = .ok .cmacBlock ∧ decode 0x00000008 = .ok .xxteaEncw ∧
    decode 0x00000108 = .ok .xxteaEncb ∧ decode 0x00000009 = .ok .xxteaDecw ∧
    decode 0x00000109 = .ok .xxteaDecb ∧ decode 0x0000000E = .ok .abort ∧
    decode 0x0000000F = .ok .sreset) ∧
  ∀ op : Nat, (0x0A ≤ op ∧ op ≤ 0x0D) ∨ (0x10 ≤ op ∧ op ≤ 0xFF) →
    decode (BitVec.ofNat 32 op) = .error .reservedOpcode ∧
    decode (BitVec.ofNat 32 (0x100 + op)) = .error .reservedOpcode

/-- R104: over all 2^32 words, the decoder and the encoder are inverse to each other, and a word
decodes exactly when the three conditions of legality hold. -/
def Obligations.DecodeIsInverseOfEncode : Prop :=
  ∀ w : Word,
    (∀ i, decode w = .ok i ↔ encode i = w) ∧
    ((∃ i, decode w = .ok i) ↔
      w >>> 9 = 0 ∧ w.setWidth 8 ∈ assignedOpcodes ∧
        (w.getLsbD 8 = false ∨ w.setWidth 8 ∈ [(0x03 : BitVec 8), 0x08, 0x09]))

/-- R105: an illegal word is accepted like any other, is dropped only while BUSY = 1, and at its
commit reports ERR_ILLEGAL_COMMAND and changes nothing else. -/
def Obligations.IllegalWordIsReportedAtCommit : Prop :=
  ∀ (s : State) (w : Word), legalWord w = false → s.rstN = true →
    (s.busy = false → ∀ es, s.events = .busWrite 0 w :: es →
      step s = .next { s with
        events := es, rdata := none, cmd := w, pend := some w, done := false, err := false,
        errcode := .ok }) ∧
    (s.busy = true → ∀ es, s.events = .busWrite 0 w :: es →
      step s = .next { s with events := es, rdata := none, wdrop := true }) ∧
    (s.pend = some w → s.nextEvent = .engine →
      step s = .next (errorReport .illegalCommand s.takeEvent))

/-! ### Steps -/

/-- A step runs the decoded command: at the engine's turn, the command the pending word decodes to
(70_reset_and_hazards.md R345); at a write of the SRESET word to CMD, SRESET (30_encoding.md R106).
Two parts are the model's choice and no rule of the spec. In the first clause a pending SRESET word
runs SRESET at the engine's turn, where R106 decodes that word at its write and at no commit; no run
reaches such a state (log 10, DEDUCED). In the second clause an engine's turn with no command pending
changes nothing (log 3, DESIGN CHOICE), as does the engine's turn of an empty event list. -/
def Obligations.StepRunsTheDecodedCommand : Prop :=
  ∀ s : State, s.rstN = true →
    (∀ w i, s.nextEvent = .engine → s.pend = some w → decode w = .ok i →
      step s = exec i { s with events := s.events.tail, rdata := none }) ∧
    (s.nextEvent = .engine → s.pend = none →
      step s = .next { s with events := s.events.tail, rdata := none }) ∧
    (∀ es, s.events = .busWrite 0 sresetWord :: es →
      step s = exec .sreset { s with events := es, rdata := none })

/-- No step of the block faults or is refused (60_exceptions.md R300, 20_memory.md R74). -/
def Obligations.EveryStepCompletes : Prop := ∀ s : State, stepSafe s

/-- R344: acceptance. -/
def Obligations.AcceptanceOfACommand : Prop :=
  ∀ (s : State) (w : Word) (es : List Event), s.rstN = true → w ≠ sresetWord →
    s.events = .busWrite 0 w :: es →
    (s.busy = false → ∃ t, step s = .next t ∧ t.busy = true ∧
      t = { s with
        events := es, rdata := none, cmd := w, pend := some w, done := false, err := false,
        errcode := .ok }) ∧
    (s.busy = true → step s = .next { s with events := es, rdata := none, wdrop := true })

/-- R351's fairness: every accepted command commits, or a reset intervenes, within one step more than
the events still to come. That the engine runs when the event list is empty, and the bound, are the
model's choice (log 3). -/
def Obligations.PendingCommandEventuallyEnds : Prop :=
  ∀ s : State, s.rstN = true → s.busy = true →
    ∃ k t, k ≤ s.events.length + 1 ∧ runSteps k s = .next t ∧ t.busy = false

/-! ### The host's accesses -/

/-- R75: a read has no side effect, and a second read returns the same value. -/
def Obligations.HostReadHasNoSideEffect : Prop :=
  ∀ (s : State) (a : BitVec 10) (es : List Event), s.events = .busRead a :: es →
    ∃ v, step s = .next { s with events := es, rdata := some v } ∧
      (s.rstN = true → v = readReg s (s.regOf a)) ∧
      ∀ b es', ∃ u, step { s with events := .busRead b :: es', rdata := some v } =
          .next { s with events := es', rdata := some u } ∧ (b = a → u = v)

/-- The word a read returns at every offset of the register map (R23): the field of the register of that
row, R24, R39 to R41, R45 to R50, and what CMD, LEN, DIN and DBUF read after a write: the written value
at the address written, and, LEN, DIN and DBUF, the value held before at every other address. The words
of STATUS, IRQEN, KEYCFG and CAPS are those of `readReg`, which StatusReadAndWriteOneToClear,
InterruptEnableWrite, KeyConfigurationWrite and CapsReadsTheCapacity state. -/
def Obligations.HostReadReturnsTheRegister : Prop :=
  (∀ (s : State) (a : BitVec 10) (es : List Event), s.rstN = true → s.events = .busRead a :: es →
    ∃ v, step s = .next { s with events := es, rdata := some v } ∧
      (offsetOf a = 0x000 → v = s.cmd) ∧
      (offsetOf a = 0x004 → v = readReg s .status) ∧
      (offsetOf a = 0x008 → v = readReg s .irqen) ∧
      (offsetOf a = 0x00C → v = readReg s .keycfg) ∧
      (offsetOf a = 0x010 → v = s.len) ∧
      (offsetOf a = 0x014 → v = s.outlen) ∧
      (offsetOf a = 0x018 → v = s.blkcnt) ∧
      (offsetOf a = 0x01C → v = readReg s .caps) ∧
      (0x020 ≤ offsetOf a ∧ offsetOf a ≤ 0x03C → v = 0) ∧
      (∀ j : Fin 4,
        (offsetOf a = 0x040 + 4 * j.val → v = s.din.get j) ∧
        (offsetOf a = 0x050 + 4 * j.val → v = s.dout.get j) ∧
        (offsetOf a = 0x060 + 4 * j.val → v = s.k1r.get j) ∧
        (offsetOf a = 0x070 + 4 * j.val → v = s.k2r.get j)) ∧
      (∀ j : Fin 2, offsetOf a = 0x080 + 4 * j.val → v = s.mact.get j) ∧
      (0x088 ≤ offsetOf a ∧ offsetOf a ≤ 0x0FC → v = 0) ∧
      (∀ i, i < s.xw → offsetOf a = 0x100 + 4 * i →
        s.dbuf[i]? = some v ∧ readReg s (.dbuf i) = v) ∧
      (0x100 + 4 * s.xw ≤ offsetOf a → v = 0)) ∧
  ∀ (s : State) (a b : BitVec 10) (v : Word) (es : List Event), s.rstN = true → s.busy = false →
    s.events = .busWrite a v :: .busRead b :: es →
    (offsetOf a = 0x000 → v ≠ sresetWord → b = a →
      ∃ t, runSteps 2 s = .next t ∧ t.rdata = some v ∧ t.events = es) ∧
    (offsetOf a = 0x010 ∨ (0x040 ≤ offsetOf a ∧ offsetOf a ≤ 0x04C) ∨
        (0x100 ≤ offsetOf a ∧ offsetOf a < 0x100 + 4 * s.xw) →
      ∃ t, runSteps 2 s = .next t ∧ t.events = es ∧
        t.rdata = some (if b = a then v else readReg s (s.regOf b)))

/-- R74: reserved offsets read 0 and ignore writes; writes to read-only registers are ignored; none of
these sets WDROP; AKEY and XKEY read 0. -/
def Obligations.ReservedReadOnlyAndWriteOnlyOffsets : Prop :=
  ∀ (s : State) (a : BitVec 10),
    ((0x088 ≤ offsetOf a ∧ offsetOf a ≤ 0x0FC) ∨ 0x100 + 4 * s.xw ≤ offsetOf a →
      readReg s (s.regOf a) = 0x00000000) ∧
    (0x020 ≤ offsetOf a ∧ offsetOf a ≤ 0x03C → readReg s (s.regOf a) = 0x00000000) ∧
    ((0x088 ≤ offsetOf a ∧ offsetOf a ≤ 0x0FC) ∨ 0x100 + 4 * s.xw ≤ offsetOf a ∨
        (0x014 ≤ offsetOf a ∧ offsetOf a ≤ 0x01C) ∨ (0x050 ≤ offsetOf a ∧ offsetOf a ≤ 0x084) →
      ∀ v es, s.events = .busWrite a v :: es →
        step s = .next { s with events := es, rdata := none })

/-- R23, R72: each offset selects the register of its row, for every legal XW. -/
def Obligations.RegisterMapOffsets : Prop :=
  ∀ (xw : Nat) (r : Reg) (off : Nat), Config.xwLegal xw = true → offsetOfReg r = some off →
    (∀ i, r = .dbuf i → i < xw) →
    regAt xw off = r ∧ off ≤ 0xFFC ∧ ∃ a : BitVec 10, offsetOf a = off

/-- R76: which writes are dropped, and what each write that takes effect does. -/
def Obligations.HostWriteDropsOrTakesEffect : Prop :=
  ∀ (s : State) (a : BitVec 10) (v : Word) (es : List Event),
    s.rstN = true → s.events = .busWrite a v :: es →
    let s0 : State := { s with events := es, rdata := none }
    let dropBusy := s.busy = true
    let dropKey := s.busy = true ∨ s.cbcAct = true ∨ s.cmacAct = true
    let dropIt := step s = .next { s0 with wdrop := true }
    (s.regOf a = .cmd → v = sresetWord → step s = exec .sreset s0) ∧
    (s.regOf a = .cmd → v ≠ sresetWord → (dropBusy → dropIt) ∧
      (¬dropBusy → step s = .next { s0 with
        cmd := v, pend := some v, done := false, err := false, errcode := .ok })) ∧
    (s.regOf a = .status → step s = .next { s0 with
      done := if v.getLsbD 1 then false else s.done
      err := if v.getLsbD 2 then false else s.err
      errcode := if v.getLsbD 2 then .ok else s.errcode
      wdrop := if v.getLsbD 3 then false else s.wdrop }) ∧
    (s.regOf a = .irqen → step s = .next { s0 with irqen := v.extractLsb' 0 3 }) ∧
    (s.regOf a = .keycfg → (dropKey → dropIt) ∧
      (¬dropKey → step s = .next { s0 with
        aklen := v.extractLsb' 0 8, xkv := v.getLsbD 8, skv := false })) ∧
    (s.regOf a = .len → (dropBusy → dropIt) ∧ (¬dropBusy → step s = .next { s0 with len := v })) ∧
    (∀ j, s.regOf a = .akey j → (dropKey → dropIt) ∧
      (¬dropKey → step s = .next { s0 with akey := s.akey.set j v, skv := false })) ∧
    (∀ j, s.regOf a = .xkey j → (dropBusy → dropIt) ∧
      (¬dropBusy → step s = .next { s0 with xkey := s.xkey.set j v })) ∧
    (∀ j, s.regOf a = .din j → (dropBusy → dropIt) ∧
      (¬dropBusy → step s = .next { s0 with din := s.din.set j v })) ∧
    (∀ i, s.regOf a = .dbuf i → (dropBusy → dropIt) ∧
      (¬dropBusy → ∃ t, step s = .next t ∧ t = { s0 with dbuf := t.dbuf } ∧ t.xw = s.xw ∧
        t.dbuf.getD i 0 = v ∧ ∀ j, j ≠ i → t.dbuf.getD j 0 = s.dbuf.getD j 0))

/-- R35: what each bit of STATUS reads as, and what a write of STATUS does. -/
def Obligations.StatusReadAndWriteOneToClear : Prop :=
  ∀ s : State,
    (∀ i : Nat, (readReg s .status).getLsbD i =
      (if i = 0 then s.busy else if i = 1 then s.done else if i = 2 then s.err
      else if i = 3 then s.wdrop else if i = 4 then s.cbcAct
      else if i = 5 then decide (s.cbcDir = .decrypt) else if i = 6 then s.cmacAct
      else if i = 7 then s.skv else if i = 8 then s.tagv
      else if 12 ≤ i ∧ i ≤ 15 then (errBits s.errcode).getLsbD (i - 12) else false)) ∧
    ∀ v es, s.rstN = true → s.events = .busWrite 1 v :: es →
      step s = .next { s with
        events := es
        rdata := none
        done := s.done && !v.getLsbD 1
        err := s.err && !v.getLsbD 2
        errcode := if v.getLsbD 2 then .ok else s.errcode
        wdrop := s.wdrop && !v.getLsbD 3 }

/-- R315: the interrupt output, from the STATUS and IRQEN the host reads. -/
def Obligations.InterruptIsEnabledStatus : Prop :=
  ∀ s : State, s.irq = true ↔ ∃ i < 3,
    (readReg s .status).getLsbD (i + 1) = true ∧ (readReg s .irqen).getLsbD i = true

/-- R36: a write of IRQEN is never dropped, takes bits [2:0], and the bits above read 0; the reset
value is 0. -/
def Obligations.InterruptEnableWrite : Prop :=
  ∀ (s : State) (v : Word) (es : List Event), s.rstN = true → s.events = .busWrite 2 v :: es →
    readReg State.reset .irqen = 0 ∧
    ∃ t, step s = .next t ∧ readReg t .irqen = v &&& 7 ∧
      t = { s with events := es, rdata := none, irqen := t.irqen }

/-- R37, R38: an accepted KEYCFG write is held as written in AKLEN and XKV, reads 0 above bit 8, and
clears SKV. -/
def Obligations.KeyConfigurationWrite : Prop :=
  ∀ (s : State) (v : Word) (es : List Event), s.rstN = true → s.busy = false →
    s.cbcAct = false → s.cmacAct = false → s.events = .busWrite 3 v :: es →
    ∃ t, step s = .next t ∧ readReg t .keycfg = v &&& 0x1FF ∧ t.skv = false ∧
      t = { s with events := es, rdata := none, aklen := t.aklen, xkv := t.xkv, skv := false }

/-- R42: CAPS reads XW and ignores writes. -/
def Obligations.CapsReadsTheCapacity : Prop :=
  readReg State.reset .caps = 0x00000040 ∧
  ∀ s : State, Memory.wf s.dbuf = true →
    readReg s .caps = BitVec.ofNat 32 s.xw ∧
    ∀ v es, s.events = .busWrite 7 v :: es → step s = .next { s with events := es, rdata := none }

/-- R319: no read at any address depends on AKEY or XKEY. -/
def Obligations.KeysCannotBeRead : Prop :=
  ∀ (s : State) (k x : WordFile) (a : BitVec 10) (es : List Event), s.events = .busRead a :: es →
    ∃ v, step s = .next { s with events := es, rdata := some v } ∧
      step { s with akey := k, xkey := x } =
        .next { s with akey := k, xkey := x, events := es, rdata := some v }

/-! ### Byte order and the block cipher -/

/-- R78: the lane mapping, and that writing a Block to a file and reading it back gives it again. -/
def Obligations.LaneMappingOfBlocks : Prop :=
  (∀ (f : WordFile) (j : Nat), j < 16 →
    byteOf (blockOfFile f) j = (f.get (Fin.ofNat 4 (j / 4))).extractLsb' (8 * (j % 4)) 8) ∧
  (∀ (b : Block) (i : Fin 4), (fileOfBlock b).get i =
    (byteOf b (4 * i.val)).setWidth 32 ||| (byteOf b (4 * i.val + 1)).setWidth 32 <<< 8 |||
      (byteOf b (4 * i.val + 2)).setWidth 32 <<< 16 |||
      (byteOf b (4 * i.val + 3)).setWidth 32 <<< 24) ∧
  (∀ b : Block, blockOfFile (fileOfBlock b) = b) ∧ ∀ f : WordFile, fileOfBlock (blockOfFile f) = f

/-- R133, R134, R135: the S-box table is the affine map of the inverse in GF(2^8), and the inverse
table inverts it. -/
def Obligations.SboxTableIsAlgebraic : Prop :=
  gfInv 0 = 0 ∧
  ∀ a : Byte, (a ≠ 0 → gmul a (gfInv a) = 1) ∧ sbox a = sboxAffine (gfInv a) ∧
    invSbox (sbox a) = a ∧ sbox (invSbox a) = a

/-- R139: the key expansion's recurrence over its columns, and the round keys. -/
def Obligations.KeyExpansionRecurrence : Prop :=
  (∀ (key : Block) (rk : Nat), rk ≤ 10 → roundKey key rk =
    ⟨keyColumn key (4 * rk), keyColumn key (4 * rk + 1), keyColumn key (4 * rk + 2),
      keyColumn key (4 * rk + 3)⟩) ∧
  ∀ (key : Block) (i : Nat),
    (i < 4 → keyColumn key i = key.get (Fin.ofNat 4 i)) ∧
    (4 ≤ i → i < 44 → keyColumn key i =
      xorColumn (keyColumn key (i - 4))
        (if i % 4 = 0 then
          xorColumn (subWord (rotWord (keyColumn key (i - 1)))) ⟨rcon (i / 4), 0x00, 0x00, 0x00⟩
        else keyColumn key (i - 1)))

/-- R130: decryption inverts encryption for every key and Block. -/
def Obligations.DecryptInvertsEncrypt : Prop :=
  ∀ key p : Block, aesDecrypt key (aesEncrypt key p) = p

/-- R142: the known answers for E. -/
def Obligations.EncryptKnownAnswers : Prop :=
  aesEncrypt (blkBe 0) (blkBe 0) = blkBe 0x66E94BD4EF8A2C3B884CFA59CA342B2E ∧
  aesEncrypt (blkBe 0x000102030405060708090a0b0c0d0e0f) (blkBe 0x00112233445566778899aabbccddeeff) =
    blkBe 0x69c4e0d86a7b0430d8cdb78070b4c55a

/-! ### Single-block commands -/

/-- R143: AES_ENC. -/
def Obligations.AesEncResult : Prop :=
  decode 0x00000001 = .ok .aesEnc ∧
  onlyPlainWord 0x01 ∧
  (∀ s : State, s.aklen ≠ 16 → exec .aesEnc s = .next (errorReport .invalidKeyLength s)) ∧
  (∀ s : State, s.aklen = 16 → exec .aesEnc s = .next (successReport { s with
    dout := fileOfBlock (aesEncrypt (blockOfFile s.akey) (blockOfFile s.din)), tagv := false })) ∧
  fileOfBlock (aesEncrypt (blockOfFile (.replicate 0)) (blockOfFile (.replicate 0))) =
    ⟨0xD44BE966, 0x3B2C8AEF, 0x59FA4C88, 0x2E2B34CA⟩

/-- R144: AES_DEC. -/
def Obligations.AesDecResult : Prop :=
  decode 0x00000002 = .ok .aesDec ∧
  onlyPlainWord 0x02 ∧
  (∀ s : State, s.aklen ≠ 16 → exec .aesDec s = .next (errorReport .invalidKeyLength s)) ∧
  (∀ s : State, s.aklen = 16 → exec .aesDec s = .next (successReport { s with
    dout := fileOfBlock (aesDecrypt (blockOfFile s.akey) (blockOfFile s.din)), tagv := false })) ∧
  aesDecrypt (blockOfFile (.replicate 0)) (blockOfFile (.replicate 0)) =
    blkBe 0x140f0f1011b5223d79587717ffd9ec3a

/-- R145: AES_ENC, DOUT copied into DIN, AES_DEC gives the first DIN back in DOUT. -/
def Obligations.AesCommandsRoundTrip : Prop :=
  ∀ s : State, s.aklen = 16 →
    ∃ t u, exec .aesEnc s = .next t ∧ exec .aesDec { t with din := t.dout } = .next u ∧
      u.dout = s.din ∧ u.errcode = .ok

/-! ### CBC -/

/-- R172: CBC_START. -/
def Obligations.CbcStartOpensASession : Prop :=
  decode 0x00000003 = .ok (.cbcStart .encrypt) ∧ decode 0x00000103 = .ok (.cbcStart .decrypt) ∧
  onlyModifierWords 0x03 ∧
  ∀ (d : Direction) (s : State),
    (s.cbcAct = true ∨ s.cmacAct = true → exec (.cbcStart d) s = .next (errorReport .sequence s)) ∧
    (s.cbcAct = false → s.cmacAct = false → s.aklen ≠ 16 →
      exec (.cbcStart d) s = .next (errorReport .invalidKeyLength s)) ∧
    (s.cbcAct = false → s.cmacAct = false → s.aklen = 16 → s.len = 0 ∨ s.len.toNat % 16 ≠ 0 →
      exec (.cbcStart d) s = .next (errorReport .invalidBlockSize s)) ∧
    (s.cbcAct = false → s.cmacAct = false → s.aklen = 16 → s.len ≠ 0 → s.len.toNat % 16 = 0 →
      exec (.cbcStart d) s = .next (successReport { s with
        cv := zeroBlock, blkcnt := BitVec.ofNat 32 (s.len.toNat / 16), cbcDir := d,
        cbcAct := true }))

/-- R173, R175: CBC_BLOCK in an encrypt session, not the last block and the last one. The clause for
BLKCNT not 1 takes in BLKCNT = 0 in an open session, which no run reaches: that BLKCNT then counts down
modulo 2^32 and the session stays open is the model's choice (log 11, DEDUCED). -/
def Obligations.CbcBlockEncrypts : Prop :=
  decode 0x00000004 = .ok .cbcBlock ∧ onlyPlainWord 0x04 ∧
  ∀ s : State,
    (s.cbcAct = false → exec .cbcBlock s = .next (errorReport .sequence s)) ∧
    (s.cbcAct = true → s.cbcDir = .encrypt →
      let c := aesEncrypt (blockOfFile s.akey) (xorBlock s.cv (blockOfFile s.din))
      let t := { s with dout := fileOfBlock c, cv := c, tagv := false, blkcnt := s.blkcnt - 1 }
      (s.blkcnt ≠ 1 → exec .cbcBlock s = .next (successReport t)) ∧
      (s.blkcnt = 1 →
        exec .cbcBlock s = .next (successReport { t with cbcAct := false, cbcDir := .encrypt })))

/-- R174, R175: CBC_BLOCK in a decrypt session, not the last block and the last one. The clause for
BLKCNT not 1 takes in BLKCNT = 0 in an open session, which no run reaches: that BLKCNT then counts down
modulo 2^32 and the session stays open is the model's choice (log 11, DEDUCED). -/
def Obligations.CbcBlockDecrypts : Prop :=
  decode 0x00000004 = .ok .cbcBlock ∧ onlyPlainWord 0x04 ∧
  ∀ s : State,
    (s.cbcAct = false → exec .cbcBlock s = .next (errorReport .sequence s)) ∧
    (s.cbcAct = true → s.cbcDir = .decrypt →
      let p := xorBlock (aesDecrypt (blockOfFile s.akey) (blockOfFile s.din)) s.cv
      let t := { s with
        dout := fileOfBlock p, cv := blockOfFile s.din, tagv := false, blkcnt := s.blkcnt - 1 }
      (s.blkcnt ≠ 1 → exec .cbcBlock s = .next (successReport t)) ∧
      (s.blkcnt = 1 →
        exec .cbcBlock s = .next (successReport { t with cbcAct := false, cbcDir := .encrypt })))

/-- R177: CBC decryption inverts CBC encryption on every buffer of whole blocks. -/
def Obligations.CbcDecryptInvertsEncrypt : Prop :=
  ∀ (key : Block) (ps : List Block), cbcDec key (cbcEnc key ps) = ps

/-- R176: a CBC session's DOUT sequence is `cbcEnc` or `cbcDec` of the blocks supplied, and the session
closes with its last block. The blocks stand in DIN as four accepted writes leave them. -/
def Obligations.CbcSessionComputesTheFunction : Prop :=
  ∀ (s : State) (d : Direction) (ps : List Block),
    s.cbcAct = false → s.cmacAct = false → s.aklen = 16 → ps ≠ [] →
    s.len.toNat = 16 * ps.length →
    ∃ t u, exec (.cbcStart d) s = .next t ∧ t.cbcAct = true ∧
      feedBlocks .cbcBlock t ps =
        some (match d with
          | .encrypt => cbcEnc (blockOfFile s.akey) ps
          | .decrypt => cbcDec (blockOfFile s.akey) ps, u) ∧
      u.cbcAct = false ∧ u.cbcDir = .encrypt ∧ u.blkcnt = 0 ∧ u.errcode = .ok

/-! ### CMAC -/

/-- R190: doubling, byte by byte. -/
def Obligations.DoublingBytewise : Prop :=
  ∀ x : Block,
    (∀ i, i < 15 → byteOf (dbl x) i = (byteOf x i <<< 1) ||| (byteOf x (i + 1) >>> 7)) ∧
    byteOf (dbl x) 15 = (byteOf x 15 <<< 1) ^^^ (if (byteOf x 0).getLsbD 7 then 0x87 else 0x00) ∧
    intBe (dbl x) =
      (if (intBe x).getLsbD 127 then (intBe x <<< 1) ^^^ 0x87 else intBe x <<< 1)

/-- R193: CMAC_SUBKEYS. -/
def Obligations.CmacSubkeysResult : Prop :=
  decode 0x00000005 = .ok .cmacSubkeys ∧ onlyPlainWord 0x05 ∧
  ∀ s : State,
    (s.aklen ≠ 16 → exec .cmacSubkeys s = .next (errorReport .invalidKeyLength s)) ∧
    (s.aklen = 16 →
      let k := blockOfFile s.akey
      exec .cmacSubkeys s = .next (successReport { s with
        k1r := fileOfBlock (dbl (aesEncrypt k zeroBlock))
        k2r := fileOfBlock (dbl (dbl (aesEncrypt k zeroBlock)))
        skv := true }))

/-- R198: CMAC_START. -/
def Obligations.CmacStartOpensASession : Prop :=
  decode 0x00000006 = .ok .cmacStart ∧ onlyPlainWord 0x06 ∧
  ∀ s : State,
    (s.cbcAct = true ∨ s.cmacAct = true → exec .cmacStart s = .next (errorReport .sequence s)) ∧
    (s.cbcAct = false → s.cmacAct = false → s.aklen ≠ 16 →
      exec .cmacStart s = .next (errorReport .invalidKeyLength s)) ∧
    (s.cbcAct = false → s.cmacAct = false → s.aklen = 16 →
      let k := blockOfFile s.akey
      let l := s.len.toNat
      exec .cmacStart s = .next (successReport { s with
        k1r := fileOfBlock (dbl (aesEncrypt k zeroBlock))
        k2r := fileOfBlock (dbl (dbl (aesEncrypt k zeroBlock)))
        skv := true
        blkcnt := if l = 0 then 1 else BitVec.ofNat 32 ((l + 15) / 16)
        cmacCmpl := decide (l ≠ 0 ∧ l % 16 = 0)
        cmacR := BitVec.ofNat 4 (l % 16)
        cv := zeroBlock
        cmacAct := true
        tagv := false }))

/-- R199: CMAC_BLOCK, not the last block. -/
def Obligations.CmacBlockAbsorbs : Prop :=
  decode 0x00000007 = .ok .cmacBlock ∧ onlyPlainWord 0x07 ∧
  ∀ s : State,
    (s.cmacAct = false → exec .cmacBlock s = .next (errorReport .sequence s)) ∧
    (s.cmacAct = true → 1 < s.blkcnt.toNat →
      exec .cmacBlock s = .next (successReport { s with
        cv := aesEncrypt (blockOfFile s.akey) (xorBlock s.cv (blockOfFile s.din))
        blkcnt := s.blkcnt - 1 }))

/-- R200: CMAC_BLOCK, the last block. -/
def Obligations.CmacBlockFinishes : Prop :=
  decode 0x00000007 = .ok .cmacBlock ∧ onlyPlainWord 0x07 ∧
  (∀ s : State, s.cmacAct = false → exec .cmacBlock s = .next (errorReport .sequence s)) ∧
  ∀ s : State, s.cmacAct = true → s.blkcnt = 1 →
    let last := if s.cmacCmpl then xorBlock (blockOfFile s.din) (blockOfFile s.k1r)
      else xorBlock (pad (blockOfFile s.din) s.cmacR.toNat) (blockOfFile s.k2r)
    let tag := aesEncrypt (blockOfFile s.akey) (xorBlock last s.cv)
    ∃ t, exec .cmacBlock s = .next t ∧
      t = successReport { s with
        dout := fileOfBlock tag
        mact := t.mact
        tagv := true
        cv := zeroBlock
        blkcnt := 0
        cmacAct := false } ∧
      ∀ j, j < 8 → (t.mact.get (Fin.ofNat 2 (j / 4))).extractLsb' (8 * (j % 4)) 8 =
        byteOf tag (2 * j + 1)

/-- R194: the padding of a partial block, which ignores the Block's bytes from `r` on. -/
def Obligations.PaddingOfAPartialBlock : Prop :=
  ∀ (b : Block) (r : Nat), r ≤ 15 →
    bytesOfBlock (pad b r) = (bytesOfBlock b).take r ++ 0x80 :: List.replicate (15 - r) 0x00 ∧
    ∀ b' : Block, (∀ j, j < r → byteOf b' j = byteOf b j) → pad b' r = pad b r

/-- R197: the tag is the odd-indexed bytes of the CMAC, in order. -/
def Obligations.TagIsTheOddBytes : Prop :=
  ∀ t : Block, bytesOfWords [(mactOf t).e0, (mactOf t).e1] =
    [1, 3, 5, 7, 9, 11, 13, 15].map (byteOf t)

/-- R202: CMAC_START with LEN = ℓ and then the n CMAC_BLOCKs of R201 leave the CMAC of the message in
DOUT and its MACT in MACT. -/
def Obligations.CmacSessionComputesTheCmac : Prop :=
  ∀ (s : State) (m : List Byte) (bs : List Block),
    s.cbcAct = false → s.cmacAct = false → s.aklen = 16 → s.len.toNat = m.length →
    bs.length = cmacBlocks m.length → (∀ i, i < bs.length → carries m i (bs.getD i zeroBlock)) →
    ∃ t v outs u, exec .cmacStart s = .next t ∧ t.cmacAct = true ∧
      feedBlocks .cmacBlock t bs = some (outs, u) ∧
      blockOfFile u.dout = cmac (blockOfFile s.akey) m ∧
      u.mact = mactOf (cmac (blockOfFile s.akey) m) ∧
      u.tagv = true ∧ u.cmacAct = false ∧ u.blkcnt = 0 ∧ u.errcode = .ok ∧
      exec .cmacSubkeys s = .next v ∧ u.k1r = v.k1r ∧ u.k2r = v.k2r ∧ u.skv = v.skv

/-! ### XXTEA -/

/-- R232: the round counts. -/
def Obligations.RoundCounts : Prop :=
  (∀ n, rounds n = 6 + 52 / n) ∧
  [2, 3, 4, 5, 6, 7, 8].map rounds = [32, 23, 19, 16, 14, 13, 12] ∧
  ∀ n, 9 ≤ n → rounds n = if n ≤ 10 then 11 else if n ≤ 13 then 10 else if n ≤ 17 then 9
    else if n ≤ 26 then 8 else if n ≤ 52 then 7 else 6

/-- R236: decryption of words inverts encryption of words; the sum is 0 for none of the q passes, and
the loop ends by itself after them. The bound on the loop's passes is the model's form of `while`
(log 13, DEDUCED); the last clause says that a larger bound changes nothing. -/
def Obligations.XxteaWordsRoundTrip : Prop :=
  (∀ (v : List Word) (k : WordFile), xxteaDecryptWords (xxteaEncryptWords v k) k = v) ∧
  (∀ n j, 2 ≤ n → 1 ≤ j → j ≤ rounds n → BitVec.ofNat 32 j * delta ≠ 0) ∧
  ∀ (k : WordFile) (n more : Nat) (vy : List Word × Word), 1 ≤ n →
    decryptLoop k n (rounds (n + 1) + more) (BitVec.ofNat 32 (rounds (n + 1)) * delta) vy =
      decryptLoop k n (rounds (n + 1)) (BitVec.ofNat 32 (rounds (n + 1)) * delta) vy

/-- R240, R241 and the round trip of the byte functions: every byte buffer shorter than 2^32 bytes
decrypts to itself under the same key bytes. -/
def Obligations.XxteaBytesRoundTrip : Prop :=
  ∀ d kb : List Byte, d.length < 2 ^ 32 → decryptBytes (encryptBytes d kb) kb = some d

/-- R242: XXTEA_ENCW. -/
def Obligations.XxteaEncwResult : Prop :=
  decode 0x00000008 = .ok .xxteaEncw ∧ onlyModifierWords 0x08 ∧
  ∀ s : State,
    (s.xkv = false → exec .xxteaEncw s = .next (errorReport .invalidKey s)) ∧
    (s.xkv = true → s.xw < s.len.toNat →
      exec .xxteaEncw s = .next (errorReport .lengthOverflow s)) ∧
    (s.xkv = true → s.len.toNat ≤ s.xw → ∃ t, exec .xxteaEncw s = .next t ∧
      t = successReport { s with dbuf := t.dbuf, outlen := BitVec.ofNat 32 (4 * s.len.toNat) } ∧
      t.xw = s.xw ∧
      t.dbuf.take s.len.toNat = xxteaEncryptWords (s.dbuf.take s.len.toNat) s.xkey ∧
      (∀ i, s.len.toNat ≤ i → readReg t (.dbuf i) = readReg s (.dbuf i)) ∧
      (s.len.toNat ≤ 1 → t.dbuf = s.dbuf))

/-- R243: XXTEA_ENCB, whose result is `encryptBytes` of the first LEN bytes of DBUF. -/
def Obligations.XxteaEncbResult : Prop :=
  decode 0x00000108 = .ok .xxteaEncb ∧ onlyModifierWords 0x08 ∧
  ∀ s : State,
    let b := s.len.toNat
    let w := (b + 3) / 4
    (s.xkv = false → exec .xxteaEncb s = .next (errorReport .invalidKey s)) ∧
    (s.xkv = true → b = 0 → exec .xxteaEncb s = .next (successReport { s with outlen := 0 })) ∧
    (s.xkv = true → b ≠ 0 → s.xw < w + 1 →
      exec .xxteaEncb s = .next (errorReport .lengthOverflow s)) ∧
    (s.xkv = true → b ≠ 0 → w + 1 ≤ s.xw → ∃ t, exec .xxteaEncb s = .next t ∧
      t = successReport { s with dbuf := t.dbuf, outlen := BitVec.ofNat 32 (4 * (w + 1)) } ∧
      t.xw = s.xw ∧
      t.dbuf.take (w + 1) =
        xxteaEncryptWords (toWords ((bytesOfWords s.dbuf).take b) true) s.xkey ∧
      ∀ i, w + 1 ≤ i → readReg t (.dbuf i) = readReg s (.dbuf i))

/-- R244: XXTEA_DECW. -/
def Obligations.XxteaDecwResult : Prop :=
  decode 0x00000009 = .ok .xxteaDecw ∧ onlyModifierWords 0x09 ∧
  ∀ s : State,
    (s.xkv = false → exec .xxteaDecw s = .next (errorReport .invalidKey s)) ∧
    (s.xkv = true → s.xw < s.len.toNat →
      exec .xxteaDecw s = .next (errorReport .lengthOverflow s)) ∧
    (s.xkv = true → s.len.toNat ≤ s.xw → ∃ t, exec .xxteaDecw s = .next t ∧
      t = successReport { s with dbuf := t.dbuf, outlen := BitVec.ofNat 32 (4 * s.len.toNat) } ∧
      t.xw = s.xw ∧
      t.dbuf.take s.len.toNat = xxteaDecryptWords (s.dbuf.take s.len.toNat) s.xkey ∧
      ∀ i, s.len.toNat ≤ i → readReg t (.dbuf i) = readReg s (.dbuf i))

/-- R245: XXTEA_DECB, whose result is `decryptBytes` of the first LEN bytes of DBUF, with the
length-header check. -/
def Obligations.XxteaDecbResult : Prop :=
  decode 0x00000109 = .ok .xxteaDecb ∧ onlyModifierWords 0x09 ∧
  ∀ s : State,
    let b := s.len.toNat
    let w := (b + 3) / 4
    let v := xxteaDecryptWords (toWords ((bytesOfWords s.dbuf).take b) false) s.xkey
    let lh := (v.getD (w - 1) 0).toNat
    (s.xkv = false → exec .xxteaDecb s = .next (errorReport .invalidKey s)) ∧
    (s.xkv = true → b = 0 → exec .xxteaDecb s = .next (successReport { s with outlen := 0 })) ∧
    (s.xkv = true → b ≠ 0 → s.xw < w →
      exec .xxteaDecb s = .next (errorReport .lengthOverflow s)) ∧
    (s.xkv = true → b ≠ 0 → w ≤ s.xw → ∃ t, exec .xxteaDecb s = .next t ∧ t.xw = s.xw ∧
      (∀ i, w ≤ i → readReg t (.dbuf i) = readReg s (.dbuf i)) ∧
      (4 * w < lh →
        t = errorReport .corruptedCiphertext { s with dbuf := t.dbuf, outlen := 0 } ∧
        ∀ i, i < w → readReg t (.dbuf i) = 0) ∧
      (lh ≤ 4 * w →
        t = successReport { s with dbuf := t.dbuf, outlen := BitVec.ofNat 32 lh } ∧
        t.dbuf.take w = v))

/-- R248: XXTEA_ENCB of the first LEN bytes of DBUF, then XXTEA_DECB with LEN = OUTLEN, gives the bytes
back without an error. -/
def Obligations.XxteaCommandsRoundTrip : Prop :=
  ∀ (s : State) (kb d : List Byte), Memory.wf s.dbuf = true → s.xkv = true → s.xkey = xkeyOf kb →
    1 ≤ d.length → d.length ≤ 4 * (s.xw - 1) → s.len.toNat = d.length →
    (bytesOfWords s.dbuf).take d.length = d →
    ∃ t u, exec .xxteaEncb s = .next t ∧
      (bytesOfWords t.dbuf).take t.outlen.toNat = encryptBytes d kb ∧
      exec .xxteaDecb { t with len := t.outlen } = .next u ∧
      u.outlen.toNat = d.length ∧ (bytesOfWords u.dbuf).take u.outlen.toNat = d ∧
      t.errcode = .ok ∧ u.errcode = .ok

/-! ### Control commands -/

/-- R280: NOP. -/
def Obligations.NopChangesOnlyTheReport : Prop :=
  decode 0x00000000 = .ok .nop ∧
  onlyPlainWord 0x00 ∧
  ∀ s : State, exec .nop s = .next (successReport s)

/-- R281: ABORT. -/
def Obligations.AbortClosesTheSession : Prop :=
  decode 0x0000000E = .ok .abort ∧
  onlyPlainWord 0x0E ∧
  ∀ s : State, exec .abort s = .next (successReport { s with
    cbcAct := false, cbcDir := .encrypt, cmacAct := false, blkcnt := 0, cv := zeroBlock,
    cmacCmpl := false, cmacR := 0 })

/-! ### Errors -/

/-- R310: the code a command reports is that of the first check that fails, in the order sequence,
key, length, result; it reports 0 when none fails. -/
def Obligations.ErrorPriority : Prop :=
  ∀ (i : Instr) (s : State), i ≠ .sreset →
    ∃ t, exec i s = .next t ∧ t.errcode = firstError (checksOf s i)

/-- R311: a command that raises an error changes nothing but the report, XXTEA_DECB's writes before
ERR_CORRUPTED_CIPHERTEXT apart. -/
def Obligations.ErrorChangesOnlyTheReport : Prop :=
  ∀ (i : Instr) (s t : State), exec i s = .next t → t.errcode ≠ .ok →
    t = errorReport t.errcode s ∨
    (i = .xxteaDecb ∧ t.errcode = .corruptedCiphertext ∧
      t = errorReport .corruptedCiphertext { s with dbuf := t.dbuf, outlen := 0 } ∧
      ∀ j, readReg t (.dbuf j) =
        if j < (s.len.toNat + 3) / 4 then 0 else readReg s (.dbuf j))

/-! ### Invariants and independence -/

/-- The invariant holds in the reset state. -/
def Obligations.ResetMeetsTheInvariant : Prop := State.reset.Inv

/-- The invariant is kept by every step. -/
def Obligations.StepKeepsTheInvariant : Prop :=
  ∀ s t : State, s.Inv → step s = .next t → t.Inv

/-- R347: a session open before and after a step has kept its AES key and both key configuration
fields. -/
def Obligations.SessionFreezesTheAesKey : Prop :=
  ∀ s t : State, step s = .next t →
    s.cbcAct = true ∨ s.cmacAct = true → t.cbcAct = true ∨ t.cmacAct = true →
    t.akey = s.akey ∧ t.aklen = s.aklen ∧ t.xkv = s.xkv

/-- R346: while a command stays pending, no step changes it or any operand or result; only STATUS,
IRQEN, `rdata` and the event list can. -/
def Obligations.OperandsAreStableWhileBusy : Prop :=
  ∀ s t : State, step s = .next t → s.rstN = true → s.busy = true → t.busy = true →
    t = { s with
      done := t.done, err := t.err, errcode := t.errcode, wdrop := t.wdrop, irqen := t.irqen,
      rdata := t.rdata, events := t.events }

/-- R92, R247: no command but SRESET writes AKEY, XKEY, DIN, LEN, KEYCFG, IRQEN or CMD, or clears
WDROP, or takes a port or the event list into account. -/
def Obligations.CommandsNeverWriteTheirOperands : Prop :=
  ∀ (i : Instr) (s t : State), i ≠ .sreset → exec i s = .next t →
    t.akey = s.akey ∧ t.xkey = s.xkey ∧ t.din = s.din ∧ t.len = s.len ∧ t.aklen = s.aklen ∧
    t.xkv = s.xkv ∧ t.irqen = s.irqen ∧ t.cmd = s.cmd ∧ t.wdrop = s.wdrop ∧ t.rstN = s.rstN ∧
    t.rdata = s.rdata ∧ t.events = s.events ∧ t.draws = s.draws

/-- R4: no command of one subsystem reads or writes state of the other; the shared report is a
function of the command's own subsystem and LEN. -/
def Obligations.SubsystemsAreIndependent : Prop :=
  ∀ (i : Instr) (s t s' t' : State), exec i s = .next t → exec i s' = .next t' → s.len = s'.len →
    (aesCommand i = true →
      t.xxteaPart = s.xxteaPart ∧
      (s.aesPart = s'.aesPart → t.aesPart = t'.aesPart ∧ t.errcode = t'.errcode)) ∧
    (xxteaCommand i = true →
      t.aesPart = s.aesPart ∧
      (s.xxteaPart = s'.xxteaPart → t.xxteaPart = t'.xxteaPart ∧ t.errcode = t'.errcode))
end

