-- ==== Sys2Proof/Laws/State.lean ====
section
/-!
SUPPORT. What each named update of the state does to each field, one lemma per field per update, true
by definition, so that no proof unfolds a record update; and the shared operands after an update.
-/

namespace Sys2Proof.Machine

open Sys2Proof

/-! ### The error report and the success commit are the common commit (70_reset_and_hazards.md R345) -/

@[simp] theorem State.raise_eq_commit (c : ErrCode) (s : State) : s.raise c = s.commit c := rfl
@[simp] theorem State.succeed_eq_commit (s : State) : s.succeed = s.commit .ok := rfl
@[simp] theorem State.holdReset_eq (s : State) :
    s.holdReset = { s.resetEffect with rstN := false } := rfl

/-! ### accept: acceptance (70_reset_and_hazards.md R344) -/

@[simp] theorem State.accept_cmd (w : Word) (s : State) : (s.accept w).cmd = w := rfl
@[simp] theorem State.accept_pend (w : Word) (s : State) : (s.accept w).pend = some w := rfl
@[simp] theorem State.accept_done (w : Word) (s : State) : (s.accept w).done = false := rfl
@[simp] theorem State.accept_err (w : Word) (s : State) : (s.accept w).err = false := rfl
@[simp] theorem State.accept_wdrop (w : Word) (s : State) : (s.accept w).wdrop = s.wdrop := rfl
@[simp] theorem State.accept_cbcAct (w : Word) (s : State) : (s.accept w).cbcAct = s.cbcAct := rfl
@[simp] theorem State.accept_cbcDir (w : Word) (s : State) : (s.accept w).cbcDir = s.cbcDir := rfl
@[simp] theorem State.accept_cmacAct (w : Word) (s : State) :
    (s.accept w).cmacAct = s.cmacAct := rfl
@[simp] theorem State.accept_skv (w : Word) (s : State) : (s.accept w).skv = s.skv := rfl
@[simp] theorem State.accept_tagv (w : Word) (s : State) : (s.accept w).tagv = s.tagv := rfl
@[simp] theorem State.accept_errcode (w : Word) (s : State) : (s.accept w).errcode = .ok := rfl
@[simp] theorem State.accept_irqen (w : Word) (s : State) : (s.accept w).irqen = s.irqen := rfl
@[simp] theorem State.accept_aklen (w : Word) (s : State) : (s.accept w).aklen = s.aklen := rfl
@[simp] theorem State.accept_xkv (w : Word) (s : State) : (s.accept w).xkv = s.xkv := rfl
@[simp] theorem State.accept_len (w : Word) (s : State) : (s.accept w).len = s.len := rfl
@[simp] theorem State.accept_outlen (w : Word) (s : State) : (s.accept w).outlen = s.outlen := rfl
@[simp] theorem State.accept_blkcnt (w : Word) (s : State) : (s.accept w).blkcnt = s.blkcnt := rfl
@[simp] theorem State.accept_akey (w : Word) (s : State) : (s.accept w).akey = s.akey := rfl
@[simp] theorem State.accept_xkey (w : Word) (s : State) : (s.accept w).xkey = s.xkey := rfl
@[simp] theorem State.accept_din (w : Word) (s : State) : (s.accept w).din = s.din := rfl
@[simp] theorem State.accept_dout (w : Word) (s : State) : (s.accept w).dout = s.dout := rfl
@[simp] theorem State.accept_k1r (w : Word) (s : State) : (s.accept w).k1r = s.k1r := rfl
@[simp] theorem State.accept_k2r (w : Word) (s : State) : (s.accept w).k2r = s.k2r := rfl
@[simp] theorem State.accept_mact (w : Word) (s : State) : (s.accept w).mact = s.mact := rfl
@[simp] theorem State.accept_dbuf (w : Word) (s : State) : (s.accept w).dbuf = s.dbuf := rfl
@[simp] theorem State.accept_cv (w : Word) (s : State) : (s.accept w).cv = s.cv := rfl
@[simp] theorem State.accept_cmacCmpl (w : Word) (s : State) :
    (s.accept w).cmacCmpl = s.cmacCmpl := rfl
@[simp] theorem State.accept_cmacR (w : Word) (s : State) : (s.accept w).cmacR = s.cmacR := rfl
@[simp] theorem State.accept_rstN (w : Word) (s : State) : (s.accept w).rstN = s.rstN := rfl
@[simp] theorem State.accept_rdata (w : Word) (s : State) : (s.accept w).rdata = s.rdata := rfl
@[simp] theorem State.accept_events (w : Word) (s : State) : (s.accept w).events = s.events := rfl
@[simp] theorem State.accept_draws (w : Word) (s : State) : (s.accept w).draws = s.draws := rfl

/-! ### writeStatus: a STATUS write (10_state.md R35) -/

@[simp] theorem State.writeStatus_cmd (v : Word) (s : State) : (s.writeStatus v).cmd = s.cmd := rfl
@[simp] theorem State.writeStatus_pend (v : Word) (s : State) :
    (s.writeStatus v).pend = s.pend := rfl
@[simp] theorem State.writeStatus_done (v : Word) (s : State) :
    (s.writeStatus v).done = (s.done && !v.getLsbD 1) := rfl
@[simp] theorem State.writeStatus_err (v : Word) (s : State) :
    (s.writeStatus v).err = (s.err && !v.getLsbD 2) := rfl
@[simp] theorem State.writeStatus_wdrop (v : Word) (s : State) :
    (s.writeStatus v).wdrop = (s.wdrop && !v.getLsbD 3) := rfl
@[simp] theorem State.writeStatus_cbcAct (v : Word) (s : State) :
    (s.writeStatus v).cbcAct = s.cbcAct := rfl
@[simp] theorem State.writeStatus_cbcDir (v : Word) (s : State) :
    (s.writeStatus v).cbcDir = s.cbcDir := rfl
@[simp] theorem State.writeStatus_cmacAct (v : Word) (s : State) :
    (s.writeStatus v).cmacAct = s.cmacAct := rfl
@[simp] theorem State.writeStatus_skv (v : Word) (s : State) : (s.writeStatus v).skv = s.skv := rfl
@[simp] theorem State.writeStatus_tagv (v : Word) (s : State) :
    (s.writeStatus v).tagv = s.tagv := rfl
@[simp] theorem State.writeStatus_errcode (v : Word) (s : State) :
    (s.writeStatus v).errcode = (if v.getLsbD 2 then .ok else s.errcode) := rfl
@[simp] theorem State.writeStatus_irqen (v : Word) (s : State) :
    (s.writeStatus v).irqen = s.irqen := rfl
@[simp] theorem State.writeStatus_aklen (v : Word) (s : State) :
    (s.writeStatus v).aklen = s.aklen := rfl
@[simp] theorem State.writeStatus_xkv (v : Word) (s : State) : (s.writeStatus v).xkv = s.xkv := rfl
@[simp] theorem State.writeStatus_len (v : Word) (s : State) : (s.writeStatus v).len = s.len := rfl
@[simp] theorem State.writeStatus_outlen (v : Word) (s : State) :
    (s.writeStatus v).outlen = s.outlen := rfl
@[simp] theorem State.writeStatus_blkcnt (v : Word) (s : State) :
    (s.writeStatus v).blkcnt = s.blkcnt := rfl
@[simp] theorem State.writeStatus_akey (v : Word) (s : State) :
    (s.writeStatus v).akey = s.akey := rfl
@[simp] theorem State.writeStatus_xkey (v : Word) (s : State) :
    (s.writeStatus v).xkey = s.xkey := rfl
@[simp] theorem State.writeStatus_din (v : Word) (s : State) : (s.writeStatus v).din = s.din := rfl
@[simp] theorem State.writeStatus_dout (v : Word) (s : State) :
    (s.writeStatus v).dout = s.dout := rfl
@[simp] theorem State.writeStatus_k1r (v : Word) (s : State) : (s.writeStatus v).k1r = s.k1r := rfl
@[simp] theorem State.writeStatus_k2r (v : Word) (s : State) : (s.writeStatus v).k2r = s.k2r := rfl
@[simp] theorem State.writeStatus_mact (v : Word) (s : State) :
    (s.writeStatus v).mact = s.mact := rfl
@[simp] theorem State.writeStatus_dbuf (v : Word) (s : State) :
    (s.writeStatus v).dbuf = s.dbuf := rfl
@[simp] theorem State.writeStatus_cv (v : Word) (s : State) : (s.writeStatus v).cv = s.cv := rfl
@[simp] theorem State.writeStatus_cmacCmpl (v : Word) (s : State) :
    (s.writeStatus v).cmacCmpl = s.cmacCmpl := rfl
@[simp] theorem State.writeStatus_cmacR (v : Word) (s : State) :
    (s.writeStatus v).cmacR = s.cmacR := rfl
@[simp] theorem State.writeStatus_rstN (v : Word) (s : State) :
    (s.writeStatus v).rstN = s.rstN := rfl
@[simp] theorem State.writeStatus_rdata (v : Word) (s : State) :
    (s.writeStatus v).rdata = s.rdata := rfl
@[simp] theorem State.writeStatus_events (v : Word) (s : State) :
    (s.writeStatus v).events = s.events := rfl
@[simp] theorem State.writeStatus_draws (v : Word) (s : State) :
    (s.writeStatus v).draws = s.draws := rfl

/-! ### dropWrite: a dropped write (20_memory.md R76) -/

@[simp] theorem State.dropWrite_cmd (s : State) : s.dropWrite.cmd = s.cmd := rfl
@[simp] theorem State.dropWrite_pend (s : State) : s.dropWrite.pend = s.pend := rfl
@[simp] theorem State.dropWrite_done (s : State) : s.dropWrite.done = s.done := rfl
@[simp] theorem State.dropWrite_err (s : State) : s.dropWrite.err = s.err := rfl
@[simp] theorem State.dropWrite_wdrop (s : State) : s.dropWrite.wdrop = true := rfl
@[simp] theorem State.dropWrite_cbcAct (s : State) : s.dropWrite.cbcAct = s.cbcAct := rfl
@[simp] theorem State.dropWrite_cbcDir (s : State) : s.dropWrite.cbcDir = s.cbcDir := rfl
@[simp] theorem State.dropWrite_cmacAct (s : State) : s.dropWrite.cmacAct = s.cmacAct := rfl
@[simp] theorem State.dropWrite_skv (s : State) : s.dropWrite.skv = s.skv := rfl
@[simp] theorem State.dropWrite_tagv (s : State) : s.dropWrite.tagv = s.tagv := rfl
@[simp] theorem State.dropWrite_errcode (s : State) : s.dropWrite.errcode = s.errcode := rfl
@[simp] theorem State.dropWrite_irqen (s : State) : s.dropWrite.irqen = s.irqen := rfl
@[simp] theorem State.dropWrite_aklen (s : State) : s.dropWrite.aklen = s.aklen := rfl
@[simp] theorem State.dropWrite_xkv (s : State) : s.dropWrite.xkv = s.xkv := rfl
@[simp] theorem State.dropWrite_len (s : State) : s.dropWrite.len = s.len := rfl
@[simp] theorem State.dropWrite_outlen (s : State) : s.dropWrite.outlen = s.outlen := rfl
@[simp] theorem State.dropWrite_blkcnt (s : State) : s.dropWrite.blkcnt = s.blkcnt := rfl
@[simp] theorem State.dropWrite_akey (s : State) : s.dropWrite.akey = s.akey := rfl
@[simp] theorem State.dropWrite_xkey (s : State) : s.dropWrite.xkey = s.xkey := rfl
@[simp] theorem State.dropWrite_din (s : State) : s.dropWrite.din = s.din := rfl
@[simp] theorem State.dropWrite_dout (s : State) : s.dropWrite.dout = s.dout := rfl
@[simp] theorem State.dropWrite_k1r (s : State) : s.dropWrite.k1r = s.k1r := rfl
@[simp] theorem State.dropWrite_k2r (s : State) : s.dropWrite.k2r = s.k2r := rfl
@[simp] theorem State.dropWrite_mact (s : State) : s.dropWrite.mact = s.mact := rfl
@[simp] theorem State.dropWrite_dbuf (s : State) : s.dropWrite.dbuf = s.dbuf := rfl
@[simp] theorem State.dropWrite_cv (s : State) : s.dropWrite.cv = s.cv := rfl
@[simp] theorem State.dropWrite_cmacCmpl (s : State) : s.dropWrite.cmacCmpl = s.cmacCmpl := rfl
@[simp] theorem State.dropWrite_cmacR (s : State) : s.dropWrite.cmacR = s.cmacR := rfl
@[simp] theorem State.dropWrite_rstN (s : State) : s.dropWrite.rstN = s.rstN := rfl
@[simp] theorem State.dropWrite_rdata (s : State) : s.dropWrite.rdata = s.rdata := rfl
@[simp] theorem State.dropWrite_events (s : State) : s.dropWrite.events = s.events := rfl
@[simp] theorem State.dropWrite_draws (s : State) : s.dropWrite.draws = s.draws := rfl

/-! ### busRead: a host read (20_memory.md R75) -/

@[simp] theorem State.busRead_cmd (a : BitVec 10) (s : State) : (s.busRead a).cmd = s.cmd := rfl
@[simp] theorem State.busRead_pend (a : BitVec 10) (s : State) : (s.busRead a).pend = s.pend := rfl
@[simp] theorem State.busRead_done (a : BitVec 10) (s : State) : (s.busRead a).done = s.done := rfl
@[simp] theorem State.busRead_err (a : BitVec 10) (s : State) : (s.busRead a).err = s.err := rfl
@[simp] theorem State.busRead_wdrop (a : BitVec 10) (s : State) :
    (s.busRead a).wdrop = s.wdrop := rfl
@[simp] theorem State.busRead_cbcAct (a : BitVec 10) (s : State) :
    (s.busRead a).cbcAct = s.cbcAct := rfl
@[simp] theorem State.busRead_cbcDir (a : BitVec 10) (s : State) :
    (s.busRead a).cbcDir = s.cbcDir := rfl
@[simp] theorem State.busRead_cmacAct (a : BitVec 10) (s : State) :
    (s.busRead a).cmacAct = s.cmacAct := rfl
@[simp] theorem State.busRead_skv (a : BitVec 10) (s : State) : (s.busRead a).skv = s.skv := rfl
@[simp] theorem State.busRead_tagv (a : BitVec 10) (s : State) : (s.busRead a).tagv = s.tagv := rfl
@[simp] theorem State.busRead_errcode (a : BitVec 10) (s : State) :
    (s.busRead a).errcode = s.errcode := rfl
@[simp] theorem State.busRead_irqen (a : BitVec 10) (s : State) :
    (s.busRead a).irqen = s.irqen := rfl
@[simp] theorem State.busRead_aklen (a : BitVec 10) (s : State) :
    (s.busRead a).aklen = s.aklen := rfl
@[simp] theorem State.busRead_xkv (a : BitVec 10) (s : State) : (s.busRead a).xkv = s.xkv := rfl
@[simp] theorem State.busRead_len (a : BitVec 10) (s : State) : (s.busRead a).len = s.len := rfl
@[simp] theorem State.busRead_outlen (a : BitVec 10) (s : State) :
    (s.busRead a).outlen = s.outlen := rfl
@[simp] theorem State.busRead_blkcnt (a : BitVec 10) (s : State) :
    (s.busRead a).blkcnt = s.blkcnt := rfl
@[simp] theorem State.busRead_akey (a : BitVec 10) (s : State) : (s.busRead a).akey = s.akey := rfl
@[simp] theorem State.busRead_xkey (a : BitVec 10) (s : State) : (s.busRead a).xkey = s.xkey := rfl
@[simp] theorem State.busRead_din (a : BitVec 10) (s : State) : (s.busRead a).din = s.din := rfl
@[simp] theorem State.busRead_dout (a : BitVec 10) (s : State) : (s.busRead a).dout = s.dout := rfl
@[simp] theorem State.busRead_k1r (a : BitVec 10) (s : State) : (s.busRead a).k1r = s.k1r := rfl
@[simp] theorem State.busRead_k2r (a : BitVec 10) (s : State) : (s.busRead a).k2r = s.k2r := rfl
@[simp] theorem State.busRead_mact (a : BitVec 10) (s : State) : (s.busRead a).mact = s.mact := rfl
@[simp] theorem State.busRead_dbuf (a : BitVec 10) (s : State) : (s.busRead a).dbuf = s.dbuf := rfl
@[simp] theorem State.busRead_cv (a : BitVec 10) (s : State) : (s.busRead a).cv = s.cv := rfl
@[simp] theorem State.busRead_cmacCmpl (a : BitVec 10) (s : State) :
    (s.busRead a).cmacCmpl = s.cmacCmpl := rfl
@[simp] theorem State.busRead_cmacR (a : BitVec 10) (s : State) :
    (s.busRead a).cmacR = s.cmacR := rfl
@[simp] theorem State.busRead_rstN (a : BitVec 10) (s : State) : (s.busRead a).rstN = s.rstN := rfl
@[simp] theorem State.busRead_rdata (a : BitVec 10) (s : State) :
    (s.busRead a).rdata = some (if s.rstN then readReg s (s.regOf a) else 0) := rfl
@[simp] theorem State.busRead_events (a : BitVec 10) (s : State) :
    (s.busRead a).events = s.events := rfl
@[simp] theorem State.busRead_draws (a : BitVec 10) (s : State) :
    (s.busRead a).draws = s.draws := rfl

/-! ### takeEvent: taking the next event (20_memory.md R87) -/

@[simp] theorem State.takeEvent_cmd (s : State) : s.takeEvent.cmd = s.cmd := rfl
@[simp] theorem State.takeEvent_pend (s : State) : s.takeEvent.pend = s.pend := rfl
@[simp] theorem State.takeEvent_done (s : State) : s.takeEvent.done = s.done := rfl
@[simp] theorem State.takeEvent_err (s : State) : s.takeEvent.err = s.err := rfl
@[simp] theorem State.takeEvent_wdrop (s : State) : s.takeEvent.wdrop = s.wdrop := rfl
@[simp] theorem State.takeEvent_cbcAct (s : State) : s.takeEvent.cbcAct = s.cbcAct := rfl
@[simp] theorem State.takeEvent_cbcDir (s : State) : s.takeEvent.cbcDir = s.cbcDir := rfl
@[simp] theorem State.takeEvent_cmacAct (s : State) : s.takeEvent.cmacAct = s.cmacAct := rfl
@[simp] theorem State.takeEvent_skv (s : State) : s.takeEvent.skv = s.skv := rfl
@[simp] theorem State.takeEvent_tagv (s : State) : s.takeEvent.tagv = s.tagv := rfl
@[simp] theorem State.takeEvent_errcode (s : State) : s.takeEvent.errcode = s.errcode := rfl
@[simp] theorem State.takeEvent_irqen (s : State) : s.takeEvent.irqen = s.irqen := rfl
@[simp] theorem State.takeEvent_aklen (s : State) : s.takeEvent.aklen = s.aklen := rfl
@[simp] theorem State.takeEvent_xkv (s : State) : s.takeEvent.xkv = s.xkv := rfl
@[simp] theorem State.takeEvent_len (s : State) : s.takeEvent.len = s.len := rfl
@[simp] theorem State.takeEvent_outlen (s : State) : s.takeEvent.outlen = s.outlen := rfl
@[simp] theorem State.takeEvent_blkcnt (s : State) : s.takeEvent.blkcnt = s.blkcnt := rfl
@[simp] theorem State.takeEvent_akey (s : State) : s.takeEvent.akey = s.akey := rfl
@[simp] theorem State.takeEvent_xkey (s : State) : s.takeEvent.xkey = s.xkey := rfl
@[simp] theorem State.takeEvent_din (s : State) : s.takeEvent.din = s.din := rfl
@[simp] theorem State.takeEvent_dout (s : State) : s.takeEvent.dout = s.dout := rfl
@[simp] theorem State.takeEvent_k1r (s : State) : s.takeEvent.k1r = s.k1r := rfl
@[simp] theorem State.takeEvent_k2r (s : State) : s.takeEvent.k2r = s.k2r := rfl
@[simp] theorem State.takeEvent_mact (s : State) : s.takeEvent.mact = s.mact := rfl
@[simp] theorem State.takeEvent_dbuf (s : State) : s.takeEvent.dbuf = s.dbuf := rfl
@[simp] theorem State.takeEvent_cv (s : State) : s.takeEvent.cv = s.cv := rfl
@[simp] theorem State.takeEvent_cmacCmpl (s : State) : s.takeEvent.cmacCmpl = s.cmacCmpl := rfl
@[simp] theorem State.takeEvent_cmacR (s : State) : s.takeEvent.cmacR = s.cmacR := rfl
@[simp] theorem State.takeEvent_rstN (s : State) : s.takeEvent.rstN = s.rstN := rfl
@[simp] theorem State.takeEvent_rdata (s : State) : s.takeEvent.rdata = none := rfl
@[simp] theorem State.takeEvent_events (s : State) : s.takeEvent.events = s.events.tail := rfl
@[simp] theorem State.takeEvent_draws (s : State) : s.takeEvent.draws = s.draws := rfl

/-! ### commit: the common commit effects (70_reset_and_hazards.md R345) -/

@[simp] theorem State.commit_cmd (c : ErrCode) (s : State) : (s.commit c).cmd = s.cmd := rfl
@[simp] theorem State.commit_pend (c : ErrCode) (s : State) : (s.commit c).pend = none := rfl
@[simp] theorem State.commit_done (c : ErrCode) (s : State) : (s.commit c).done = true := rfl
@[simp] theorem State.commit_err (c : ErrCode) (s : State) : (s.commit c).err = (c != .ok) := rfl
@[simp] theorem State.commit_wdrop (c : ErrCode) (s : State) : (s.commit c).wdrop = s.wdrop := rfl
@[simp] theorem State.commit_cbcAct (c : ErrCode) (s : State) :
    (s.commit c).cbcAct = s.cbcAct := rfl
@[simp] theorem State.commit_cbcDir (c : ErrCode) (s : State) :
    (s.commit c).cbcDir = s.cbcDir := rfl
@[simp] theorem State.commit_cmacAct (c : ErrCode) (s : State) :
    (s.commit c).cmacAct = s.cmacAct := rfl
@[simp] theorem State.commit_skv (c : ErrCode) (s : State) : (s.commit c).skv = s.skv := rfl
@[simp] theorem State.commit_tagv (c : ErrCode) (s : State) : (s.commit c).tagv = s.tagv := rfl
@[simp] theorem State.commit_errcode (c : ErrCode) (s : State) : (s.commit c).errcode = c := rfl
@[simp] theorem State.commit_irqen (c : ErrCode) (s : State) : (s.commit c).irqen = s.irqen := rfl
@[simp] theorem State.commit_aklen (c : ErrCode) (s : State) : (s.commit c).aklen = s.aklen := rfl
@[simp] theorem State.commit_xkv (c : ErrCode) (s : State) : (s.commit c).xkv = s.xkv := rfl
@[simp] theorem State.commit_len (c : ErrCode) (s : State) : (s.commit c).len = s.len := rfl
@[simp] theorem State.commit_outlen (c : ErrCode) (s : State) :
    (s.commit c).outlen = s.outlen := rfl
@[simp] theorem State.commit_blkcnt (c : ErrCode) (s : State) :
    (s.commit c).blkcnt = s.blkcnt := rfl
@[simp] theorem State.commit_akey (c : ErrCode) (s : State) : (s.commit c).akey = s.akey := rfl
@[simp] theorem State.commit_xkey (c : ErrCode) (s : State) : (s.commit c).xkey = s.xkey := rfl
@[simp] theorem State.commit_din (c : ErrCode) (s : State) : (s.commit c).din = s.din := rfl
@[simp] theorem State.commit_dout (c : ErrCode) (s : State) : (s.commit c).dout = s.dout := rfl
@[simp] theorem State.commit_k1r (c : ErrCode) (s : State) : (s.commit c).k1r = s.k1r := rfl
@[simp] theorem State.commit_k2r (c : ErrCode) (s : State) : (s.commit c).k2r = s.k2r := rfl
@[simp] theorem State.commit_mact (c : ErrCode) (s : State) : (s.commit c).mact = s.mact := rfl
@[simp] theorem State.commit_dbuf (c : ErrCode) (s : State) : (s.commit c).dbuf = s.dbuf := rfl
@[simp] theorem State.commit_cv (c : ErrCode) (s : State) : (s.commit c).cv = s.cv := rfl
@[simp] theorem State.commit_cmacCmpl (c : ErrCode) (s : State) :
    (s.commit c).cmacCmpl = s.cmacCmpl := rfl
@[simp] theorem State.commit_cmacR (c : ErrCode) (s : State) : (s.commit c).cmacR = s.cmacR := rfl
@[simp] theorem State.commit_rstN (c : ErrCode) (s : State) : (s.commit c).rstN = s.rstN := rfl
@[simp] theorem State.commit_rdata (c : ErrCode) (s : State) : (s.commit c).rdata = s.rdata := rfl
@[simp] theorem State.commit_events (c : ErrCode) (s : State) :
    (s.commit c).events = s.events := rfl
@[simp] theorem State.commit_draws (c : ErrCode) (s : State) : (s.commit c).draws = s.draws := rfl

/-! ### putOutput: an output Block (10_state.md R33, R46) -/

@[simp] theorem State.putOutput_cmd (b : Block) (s : State) : (s.putOutput b).cmd = s.cmd := rfl
@[simp] theorem State.putOutput_pend (b : Block) (s : State) : (s.putOutput b).pend = s.pend := rfl
@[simp] theorem State.putOutput_done (b : Block) (s : State) : (s.putOutput b).done = s.done := rfl
@[simp] theorem State.putOutput_err (b : Block) (s : State) : (s.putOutput b).err = s.err := rfl
@[simp] theorem State.putOutput_wdrop (b : Block) (s : State) :
    (s.putOutput b).wdrop = s.wdrop := rfl
@[simp] theorem State.putOutput_cbcAct (b : Block) (s : State) :
    (s.putOutput b).cbcAct = s.cbcAct := rfl
@[simp] theorem State.putOutput_cbcDir (b : Block) (s : State) :
    (s.putOutput b).cbcDir = s.cbcDir := rfl
@[simp] theorem State.putOutput_cmacAct (b : Block) (s : State) :
    (s.putOutput b).cmacAct = s.cmacAct := rfl
@[simp] theorem State.putOutput_skv (b : Block) (s : State) : (s.putOutput b).skv = s.skv := rfl
@[simp] theorem State.putOutput_tagv (b : Block) (s : State) : (s.putOutput b).tagv = false := rfl
@[simp] theorem State.putOutput_errcode (b : Block) (s : State) :
    (s.putOutput b).errcode = s.errcode := rfl
@[simp] theorem State.putOutput_irqen (b : Block) (s : State) :
    (s.putOutput b).irqen = s.irqen := rfl
@[simp] theorem State.putOutput_aklen (b : Block) (s : State) :
    (s.putOutput b).aklen = s.aklen := rfl
@[simp] theorem State.putOutput_xkv (b : Block) (s : State) : (s.putOutput b).xkv = s.xkv := rfl
@[simp] theorem State.putOutput_len (b : Block) (s : State) : (s.putOutput b).len = s.len := rfl
@[simp] theorem State.putOutput_outlen (b : Block) (s : State) :
    (s.putOutput b).outlen = s.outlen := rfl
@[simp] theorem State.putOutput_blkcnt (b : Block) (s : State) :
    (s.putOutput b).blkcnt = s.blkcnt := rfl
@[simp] theorem State.putOutput_akey (b : Block) (s : State) : (s.putOutput b).akey = s.akey := rfl
@[simp] theorem State.putOutput_xkey (b : Block) (s : State) : (s.putOutput b).xkey = s.xkey := rfl
@[simp] theorem State.putOutput_din (b : Block) (s : State) : (s.putOutput b).din = s.din := rfl
@[simp] theorem State.putOutput_dout (b : Block) (s : State) :
    (s.putOutput b).dout = fileOfBlock b := rfl
@[simp] theorem State.putOutput_k1r (b : Block) (s : State) : (s.putOutput b).k1r = s.k1r := rfl
@[simp] theorem State.putOutput_k2r (b : Block) (s : State) : (s.putOutput b).k2r = s.k2r := rfl
@[simp] theorem State.putOutput_mact (b : Block) (s : State) : (s.putOutput b).mact = s.mact := rfl
@[simp] theorem State.putOutput_dbuf (b : Block) (s : State) : (s.putOutput b).dbuf = s.dbuf := rfl
@[simp] theorem State.putOutput_cv (b : Block) (s : State) : (s.putOutput b).cv = s.cv := rfl
@[simp] theorem State.putOutput_cmacCmpl (b : Block) (s : State) :
    (s.putOutput b).cmacCmpl = s.cmacCmpl := rfl
@[simp] theorem State.putOutput_cmacR (b : Block) (s : State) :
    (s.putOutput b).cmacR = s.cmacR := rfl
@[simp] theorem State.putOutput_rstN (b : Block) (s : State) : (s.putOutput b).rstN = s.rstN := rfl
@[simp] theorem State.putOutput_rdata (b : Block) (s : State) :
    (s.putOutput b).rdata = s.rdata := rfl
@[simp] theorem State.putOutput_events (b : Block) (s : State) :
    (s.putOutput b).events = s.events := rfl
@[simp] theorem State.putOutput_draws (b : Block) (s : State) :
    (s.putOutput b).draws = s.draws := rfl

/-! ### putBuffer: an XXTEA result (10_state.md R40, R50) -/

@[simp] theorem State.putBuffer_cmd (v : List Word) (n : Nat) (s : State) :
    (s.putBuffer v n).cmd = s.cmd := rfl
@[simp] theorem State.putBuffer_pend (v : List Word) (n : Nat) (s : State) :
    (s.putBuffer v n).pend = s.pend := rfl
@[simp] theorem State.putBuffer_done (v : List Word) (n : Nat) (s : State) :
    (s.putBuffer v n).done = s.done := rfl
@[simp] theorem State.putBuffer_err (v : List Word) (n : Nat) (s : State) :
    (s.putBuffer v n).err = s.err := rfl
@[simp] theorem State.putBuffer_wdrop (v : List Word) (n : Nat) (s : State) :
    (s.putBuffer v n).wdrop = s.wdrop := rfl
@[simp] theorem State.putBuffer_cbcAct (v : List Word) (n : Nat) (s : State) :
    (s.putBuffer v n).cbcAct = s.cbcAct := rfl
@[simp] theorem State.putBuffer_cbcDir (v : List Word) (n : Nat) (s : State) :
    (s.putBuffer v n).cbcDir = s.cbcDir := rfl
@[simp] theorem State.putBuffer_cmacAct (v : List Word) (n : Nat) (s : State) :
    (s.putBuffer v n).cmacAct = s.cmacAct := rfl
@[simp] theorem State.putBuffer_skv (v : List Word) (n : Nat) (s : State) :
    (s.putBuffer v n).skv = s.skv := rfl
@[simp] theorem State.putBuffer_tagv (v : List Word) (n : Nat) (s : State) :
    (s.putBuffer v n).tagv = s.tagv := rfl
@[simp] theorem State.putBuffer_errcode (v : List Word) (n : Nat) (s : State) :
    (s.putBuffer v n).errcode = s.errcode := rfl
@[simp] theorem State.putBuffer_irqen (v : List Word) (n : Nat) (s : State) :
    (s.putBuffer v n).irqen = s.irqen := rfl
@[simp] theorem State.putBuffer_aklen (v : List Word) (n : Nat) (s : State) :
    (s.putBuffer v n).aklen = s.aklen := rfl
@[simp] theorem State.putBuffer_xkv (v : List Word) (n : Nat) (s : State) :
    (s.putBuffer v n).xkv = s.xkv := rfl
@[simp] theorem State.putBuffer_len (v : List Word) (n : Nat) (s : State) :
    (s.putBuffer v n).len = s.len := rfl
@[simp] theorem State.putBuffer_outlen (v : List Word) (n : Nat) (s : State) :
    (s.putBuffer v n).outlen = BitVec.ofNat 32 n := rfl
@[simp] theorem State.putBuffer_blkcnt (v : List Word) (n : Nat) (s : State) :
    (s.putBuffer v n).blkcnt = s.blkcnt := rfl
@[simp] theorem State.putBuffer_akey (v : List Word) (n : Nat) (s : State) :
    (s.putBuffer v n).akey = s.akey := rfl
@[simp] theorem State.putBuffer_xkey (v : List Word) (n : Nat) (s : State) :
    (s.putBuffer v n).xkey = s.xkey := rfl
@[simp] theorem State.putBuffer_din (v : List Word) (n : Nat) (s : State) :
    (s.putBuffer v n).din = s.din := rfl
@[simp] theorem State.putBuffer_dout (v : List Word) (n : Nat) (s : State) :
    (s.putBuffer v n).dout = s.dout := rfl
@[simp] theorem State.putBuffer_k1r (v : List Word) (n : Nat) (s : State) :
    (s.putBuffer v n).k1r = s.k1r := rfl
@[simp] theorem State.putBuffer_k2r (v : List Word) (n : Nat) (s : State) :
    (s.putBuffer v n).k2r = s.k2r := rfl
@[simp] theorem State.putBuffer_mact (v : List Word) (n : Nat) (s : State) :
    (s.putBuffer v n).mact = s.mact := rfl
@[simp] theorem State.putBuffer_dbuf (v : List Word) (n : Nat) (s : State) :
    (s.putBuffer v n).dbuf = v ++ s.dbuf.drop v.length := rfl
@[simp] theorem State.putBuffer_cv (v : List Word) (n : Nat) (s : State) :
    (s.putBuffer v n).cv = s.cv := rfl
@[simp] theorem State.putBuffer_cmacCmpl (v : List Word) (n : Nat) (s : State) :
    (s.putBuffer v n).cmacCmpl = s.cmacCmpl := rfl
@[simp] theorem State.putBuffer_cmacR (v : List Word) (n : Nat) (s : State) :
    (s.putBuffer v n).cmacR = s.cmacR := rfl
@[simp] theorem State.putBuffer_rstN (v : List Word) (n : Nat) (s : State) :
    (s.putBuffer v n).rstN = s.rstN := rfl
@[simp] theorem State.putBuffer_rdata (v : List Word) (n : Nat) (s : State) :
    (s.putBuffer v n).rdata = s.rdata := rfl
@[simp] theorem State.putBuffer_events (v : List Word) (n : Nat) (s : State) :
    (s.putBuffer v n).events = s.events := rfl
@[simp] theorem State.putBuffer_draws (v : List Word) (n : Nat) (s : State) :
    (s.putBuffer v n).draws = s.draws := rfl

/-! ### openCbc: opening a CBC session (41_cbc.md R172) -/

@[simp] theorem State.openCbc_cmd (d : Direction) (s : State) : (s.openCbc d).cmd = s.cmd := rfl
@[simp] theorem State.openCbc_pend (d : Direction) (s : State) : (s.openCbc d).pend = s.pend := rfl
@[simp] theorem State.openCbc_done (d : Direction) (s : State) : (s.openCbc d).done = s.done := rfl
@[simp] theorem State.openCbc_err (d : Direction) (s : State) : (s.openCbc d).err = s.err := rfl
@[simp] theorem State.openCbc_wdrop (d : Direction) (s : State) :
    (s.openCbc d).wdrop = s.wdrop := rfl
@[simp] theorem State.openCbc_cbcAct (d : Direction) (s : State) :
    (s.openCbc d).cbcAct = true := rfl
@[simp] theorem State.openCbc_cbcDir (d : Direction) (s : State) : (s.openCbc d).cbcDir = d := rfl
@[simp] theorem State.openCbc_cmacAct (d : Direction) (s : State) :
    (s.openCbc d).cmacAct = s.cmacAct := rfl
@[simp] theorem State.openCbc_skv (d : Direction) (s : State) : (s.openCbc d).skv = s.skv := rfl
@[simp] theorem State.openCbc_tagv (d : Direction) (s : State) : (s.openCbc d).tagv = s.tagv := rfl
@[simp] theorem State.openCbc_errcode (d : Direction) (s : State) :
    (s.openCbc d).errcode = s.errcode := rfl
@[simp] theorem State.openCbc_irqen (d : Direction) (s : State) :
    (s.openCbc d).irqen = s.irqen := rfl
@[simp] theorem State.openCbc_aklen (d : Direction) (s : State) :
    (s.openCbc d).aklen = s.aklen := rfl
@[simp] theorem State.openCbc_xkv (d : Direction) (s : State) : (s.openCbc d).xkv = s.xkv := rfl
@[simp] theorem State.openCbc_len (d : Direction) (s : State) : (s.openCbc d).len = s.len := rfl
@[simp] theorem State.openCbc_outlen (d : Direction) (s : State) :
    (s.openCbc d).outlen = s.outlen := rfl
@[simp] theorem State.openCbc_blkcnt (d : Direction) (s : State) :
    (s.openCbc d).blkcnt = s.len / 16 := rfl
@[simp] theorem State.openCbc_akey (d : Direction) (s : State) : (s.openCbc d).akey = s.akey := rfl
@[simp] theorem State.openCbc_xkey (d : Direction) (s : State) : (s.openCbc d).xkey = s.xkey := rfl
@[simp] theorem State.openCbc_din (d : Direction) (s : State) : (s.openCbc d).din = s.din := rfl
@[simp] theorem State.openCbc_dout (d : Direction) (s : State) : (s.openCbc d).dout = s.dout := rfl
@[simp] theorem State.openCbc_k1r (d : Direction) (s : State) : (s.openCbc d).k1r = s.k1r := rfl
@[simp] theorem State.openCbc_k2r (d : Direction) (s : State) : (s.openCbc d).k2r = s.k2r := rfl
@[simp] theorem State.openCbc_mact (d : Direction) (s : State) : (s.openCbc d).mact = s.mact := rfl
@[simp] theorem State.openCbc_dbuf (d : Direction) (s : State) : (s.openCbc d).dbuf = s.dbuf := rfl
@[simp] theorem State.openCbc_cv (d : Direction) (s : State) : (s.openCbc d).cv = zeroBlock := rfl
@[simp] theorem State.openCbc_cmacCmpl (d : Direction) (s : State) :
    (s.openCbc d).cmacCmpl = s.cmacCmpl := rfl
@[simp] theorem State.openCbc_cmacR (d : Direction) (s : State) :
    (s.openCbc d).cmacR = s.cmacR := rfl
@[simp] theorem State.openCbc_rstN (d : Direction) (s : State) : (s.openCbc d).rstN = s.rstN := rfl
@[simp] theorem State.openCbc_rdata (d : Direction) (s : State) :
    (s.openCbc d).rdata = s.rdata := rfl
@[simp] theorem State.openCbc_events (d : Direction) (s : State) :
    (s.openCbc d).events = s.events := rfl
@[simp] theorem State.openCbc_draws (d : Direction) (s : State) :
    (s.openCbc d).draws = s.draws := rfl

/-! ### cbcAdvance: a block of a CBC session (41_cbc.md R173 to R175) -/

@[simp] theorem State.cbcAdvance_cmd (o c : Block) (s : State) :
    (s.cbcAdvance o c).cmd = s.cmd := rfl
@[simp] theorem State.cbcAdvance_pend (o c : Block) (s : State) :
    (s.cbcAdvance o c).pend = s.pend := rfl
@[simp] theorem State.cbcAdvance_done (o c : Block) (s : State) :
    (s.cbcAdvance o c).done = s.done := rfl
@[simp] theorem State.cbcAdvance_err (o c : Block) (s : State) :
    (s.cbcAdvance o c).err = s.err := rfl
@[simp] theorem State.cbcAdvance_wdrop (o c : Block) (s : State) :
    (s.cbcAdvance o c).wdrop = s.wdrop := rfl
@[simp] theorem State.cbcAdvance_cbcAct (o c : Block) (s : State) :
    (s.cbcAdvance o c).cbcAct = (if s.blkcnt - 1 = 0 then false else s.cbcAct) := rfl
@[simp] theorem State.cbcAdvance_cbcDir (o c : Block) (s : State) :
    (s.cbcAdvance o c).cbcDir = (if s.blkcnt - 1 = 0 then .encrypt else s.cbcDir) := rfl
@[simp] theorem State.cbcAdvance_cmacAct (o c : Block) (s : State) :
    (s.cbcAdvance o c).cmacAct = s.cmacAct := rfl
@[simp] theorem State.cbcAdvance_skv (o c : Block) (s : State) :
    (s.cbcAdvance o c).skv = s.skv := rfl
@[simp] theorem State.cbcAdvance_tagv (o c : Block) (s : State) :
    (s.cbcAdvance o c).tagv = false := rfl
@[simp] theorem State.cbcAdvance_errcode (o c : Block) (s : State) :
    (s.cbcAdvance o c).errcode = s.errcode := rfl
@[simp] theorem State.cbcAdvance_irqen (o c : Block) (s : State) :
    (s.cbcAdvance o c).irqen = s.irqen := rfl
@[simp] theorem State.cbcAdvance_aklen (o c : Block) (s : State) :
    (s.cbcAdvance o c).aklen = s.aklen := rfl
@[simp] theorem State.cbcAdvance_xkv (o c : Block) (s : State) :
    (s.cbcAdvance o c).xkv = s.xkv := rfl
@[simp] theorem State.cbcAdvance_len (o c : Block) (s : State) :
    (s.cbcAdvance o c).len = s.len := rfl
@[simp] theorem State.cbcAdvance_outlen (o c : Block) (s : State) :
    (s.cbcAdvance o c).outlen = s.outlen := rfl
@[simp] theorem State.cbcAdvance_blkcnt (o c : Block) (s : State) :
    (s.cbcAdvance o c).blkcnt = s.blkcnt - 1 := rfl
@[simp] theorem State.cbcAdvance_akey (o c : Block) (s : State) :
    (s.cbcAdvance o c).akey = s.akey := rfl
@[simp] theorem State.cbcAdvance_xkey (o c : Block) (s : State) :
    (s.cbcAdvance o c).xkey = s.xkey := rfl
@[simp] theorem State.cbcAdvance_din (o c : Block) (s : State) :
    (s.cbcAdvance o c).din = s.din := rfl
@[simp] theorem State.cbcAdvance_dout (o c : Block) (s : State) :
    (s.cbcAdvance o c).dout = fileOfBlock o := rfl
@[simp] theorem State.cbcAdvance_k1r (o c : Block) (s : State) :
    (s.cbcAdvance o c).k1r = s.k1r := rfl
@[simp] theorem State.cbcAdvance_k2r (o c : Block) (s : State) :
    (s.cbcAdvance o c).k2r = s.k2r := rfl
@[simp] theorem State.cbcAdvance_mact (o c : Block) (s : State) :
    (s.cbcAdvance o c).mact = s.mact := rfl
@[simp] theorem State.cbcAdvance_dbuf (o c : Block) (s : State) :
    (s.cbcAdvance o c).dbuf = s.dbuf := rfl
@[simp] theorem State.cbcAdvance_cv (o c : Block) (s : State) : (s.cbcAdvance o c).cv = c := rfl
@[simp] theorem State.cbcAdvance_cmacCmpl (o c : Block) (s : State) :
    (s.cbcAdvance o c).cmacCmpl = s.cmacCmpl := rfl
@[simp] theorem State.cbcAdvance_cmacR (o c : Block) (s : State) :
    (s.cbcAdvance o c).cmacR = s.cmacR := rfl
@[simp] theorem State.cbcAdvance_rstN (o c : Block) (s : State) :
    (s.cbcAdvance o c).rstN = s.rstN := rfl
@[simp] theorem State.cbcAdvance_rdata (o c : Block) (s : State) :
    (s.cbcAdvance o c).rdata = s.rdata := rfl
@[simp] theorem State.cbcAdvance_events (o c : Block) (s : State) :
    (s.cbcAdvance o c).events = s.events := rfl
@[simp] theorem State.cbcAdvance_draws (o c : Block) (s : State) :
    (s.cbcAdvance o c).draws = s.draws := rfl

@[simp] theorem State.cbcEncryptBlock_eq (s : State) :
    s.cbcEncryptBlock =
      s.cbcAdvance (aesEncrypt s.aesKey (xorBlock s.cv s.dinBlock))
        (aesEncrypt s.aesKey (xorBlock s.cv s.dinBlock)) := rfl
@[simp] theorem State.cbcDecryptBlock_eq (s : State) :
    s.cbcDecryptBlock =
      s.cbcAdvance (xorBlock (aesDecrypt s.aesKey s.dinBlock) s.cv) s.dinBlock := rfl

/-! ### putSubkeys: the subkey pair (42_cmac.md R193) -/

@[simp] theorem State.putSubkeys_cmd (s : State) : s.putSubkeys.cmd = s.cmd := rfl
@[simp] theorem State.putSubkeys_pend (s : State) : s.putSubkeys.pend = s.pend := rfl
@[simp] theorem State.putSubkeys_done (s : State) : s.putSubkeys.done = s.done := rfl
@[simp] theorem State.putSubkeys_err (s : State) : s.putSubkeys.err = s.err := rfl
@[simp] theorem State.putSubkeys_wdrop (s : State) : s.putSubkeys.wdrop = s.wdrop := rfl
@[simp] theorem State.putSubkeys_cbcAct (s : State) : s.putSubkeys.cbcAct = s.cbcAct := rfl
@[simp] theorem State.putSubkeys_cbcDir (s : State) : s.putSubkeys.cbcDir = s.cbcDir := rfl
@[simp] theorem State.putSubkeys_cmacAct (s : State) : s.putSubkeys.cmacAct = s.cmacAct := rfl
@[simp] theorem State.putSubkeys_skv (s : State) : s.putSubkeys.skv = true := rfl
@[simp] theorem State.putSubkeys_tagv (s : State) : s.putSubkeys.tagv = s.tagv := rfl
@[simp] theorem State.putSubkeys_errcode (s : State) : s.putSubkeys.errcode = s.errcode := rfl
@[simp] theorem State.putSubkeys_irqen (s : State) : s.putSubkeys.irqen = s.irqen := rfl
@[simp] theorem State.putSubkeys_aklen (s : State) : s.putSubkeys.aklen = s.aklen := rfl
@[simp] theorem State.putSubkeys_xkv (s : State) : s.putSubkeys.xkv = s.xkv := rfl
@[simp] theorem State.putSubkeys_len (s : State) : s.putSubkeys.len = s.len := rfl
@[simp] theorem State.putSubkeys_outlen (s : State) : s.putSubkeys.outlen = s.outlen := rfl
@[simp] theorem State.putSubkeys_blkcnt (s : State) : s.putSubkeys.blkcnt = s.blkcnt := rfl
@[simp] theorem State.putSubkeys_akey (s : State) : s.putSubkeys.akey = s.akey := rfl
@[simp] theorem State.putSubkeys_xkey (s : State) : s.putSubkeys.xkey = s.xkey := rfl
@[simp] theorem State.putSubkeys_din (s : State) : s.putSubkeys.din = s.din := rfl
@[simp] theorem State.putSubkeys_dout (s : State) : s.putSubkeys.dout = s.dout := rfl
@[simp] theorem State.putSubkeys_k1r (s : State) :
    s.putSubkeys.k1r = fileOfBlock (subkey1 s.aesKey) := rfl
@[simp] theorem State.putSubkeys_k2r (s : State) :
    s.putSubkeys.k2r = fileOfBlock (subkey2 s.aesKey) := rfl
@[simp] theorem State.putSubkeys_mact (s : State) : s.putSubkeys.mact = s.mact := rfl
@[simp] theorem State.putSubkeys_dbuf (s : State) : s.putSubkeys.dbuf = s.dbuf := rfl
@[simp] theorem State.putSubkeys_cv (s : State) : s.putSubkeys.cv = s.cv := rfl
@[simp] theorem State.putSubkeys_cmacCmpl (s : State) : s.putSubkeys.cmacCmpl = s.cmacCmpl := rfl
@[simp] theorem State.putSubkeys_cmacR (s : State) : s.putSubkeys.cmacR = s.cmacR := rfl
@[simp] theorem State.putSubkeys_rstN (s : State) : s.putSubkeys.rstN = s.rstN := rfl
@[simp] theorem State.putSubkeys_rdata (s : State) : s.putSubkeys.rdata = s.rdata := rfl
@[simp] theorem State.putSubkeys_events (s : State) : s.putSubkeys.events = s.events := rfl
@[simp] theorem State.putSubkeys_draws (s : State) : s.putSubkeys.draws = s.draws := rfl

/-! ### openCmac: opening a CMAC session (42_cmac.md R198) -/

@[simp] theorem State.openCmac_cmd (s : State) : s.openCmac.cmd = s.cmd := rfl
@[simp] theorem State.openCmac_pend (s : State) : s.openCmac.pend = s.pend := rfl
@[simp] theorem State.openCmac_done (s : State) : s.openCmac.done = s.done := rfl
@[simp] theorem State.openCmac_err (s : State) : s.openCmac.err = s.err := rfl
@[simp] theorem State.openCmac_wdrop (s : State) : s.openCmac.wdrop = s.wdrop := rfl
@[simp] theorem State.openCmac_cbcAct (s : State) : s.openCmac.cbcAct = s.cbcAct := rfl
@[simp] theorem State.openCmac_cbcDir (s : State) : s.openCmac.cbcDir = s.cbcDir := rfl
@[simp] theorem State.openCmac_cmacAct (s : State) : s.openCmac.cmacAct = true := rfl
@[simp] theorem State.openCmac_skv (s : State) : s.openCmac.skv = true := rfl
@[simp] theorem State.openCmac_tagv (s : State) : s.openCmac.tagv = false := rfl
@[simp] theorem State.openCmac_errcode (s : State) : s.openCmac.errcode = s.errcode := rfl
@[simp] theorem State.openCmac_irqen (s : State) : s.openCmac.irqen = s.irqen := rfl
@[simp] theorem State.openCmac_aklen (s : State) : s.openCmac.aklen = s.aklen := rfl
@[simp] theorem State.openCmac_xkv (s : State) : s.openCmac.xkv = s.xkv := rfl
@[simp] theorem State.openCmac_len (s : State) : s.openCmac.len = s.len := rfl
@[simp] theorem State.openCmac_outlen (s : State) : s.openCmac.outlen = s.outlen := rfl
@[simp] theorem State.openCmac_blkcnt (s : State) :
    s.openCmac.blkcnt = BitVec.ofNat 32 (cmacBlocks s.lenNat) := rfl
@[simp] theorem State.openCmac_akey (s : State) : s.openCmac.akey = s.akey := rfl
@[simp] theorem State.openCmac_xkey (s : State) : s.openCmac.xkey = s.xkey := rfl
@[simp] theorem State.openCmac_din (s : State) : s.openCmac.din = s.din := rfl
@[simp] theorem State.openCmac_dout (s : State) : s.openCmac.dout = s.dout := rfl
@[simp] theorem State.openCmac_k1r (s : State) :
    s.openCmac.k1r = fileOfBlock (subkey1 s.aesKey) := rfl
@[simp] theorem State.openCmac_k2r (s : State) :
    s.openCmac.k2r = fileOfBlock (subkey2 s.aesKey) := rfl
@[simp] theorem State.openCmac_mact (s : State) : s.openCmac.mact = s.mact := rfl
@[simp] theorem State.openCmac_dbuf (s : State) : s.openCmac.dbuf = s.dbuf := rfl
@[simp] theorem State.openCmac_cv (s : State) : s.openCmac.cv = zeroBlock := rfl
@[simp] theorem State.openCmac_cmacCmpl (s : State) :
    s.openCmac.cmacCmpl = cmacComplete s.lenNat := rfl
@[simp] theorem State.openCmac_cmacR (s : State) :
    s.openCmac.cmacR = BitVec.ofNat 4 (s.lenNat % 16) := rfl
@[simp] theorem State.openCmac_rstN (s : State) : s.openCmac.rstN = s.rstN := rfl
@[simp] theorem State.openCmac_rdata (s : State) : s.openCmac.rdata = s.rdata := rfl
@[simp] theorem State.openCmac_events (s : State) : s.openCmac.events = s.events := rfl
@[simp] theorem State.openCmac_draws (s : State) : s.openCmac.draws = s.draws := rfl

/-! ### cmacAbsorb: a full message block (42_cmac.md R199) -/

@[simp] theorem State.cmacAbsorb_cmd (s : State) : s.cmacAbsorb.cmd = s.cmd := rfl
@[simp] theorem State.cmacAbsorb_pend (s : State) : s.cmacAbsorb.pend = s.pend := rfl
@[simp] theorem State.cmacAbsorb_done (s : State) : s.cmacAbsorb.done = s.done := rfl
@[simp] theorem State.cmacAbsorb_err (s : State) : s.cmacAbsorb.err = s.err := rfl
@[simp] theorem State.cmacAbsorb_wdrop (s : State) : s.cmacAbsorb.wdrop = s.wdrop := rfl
@[simp] theorem State.cmacAbsorb_cbcAct (s : State) : s.cmacAbsorb.cbcAct = s.cbcAct := rfl
@[simp] theorem State.cmacAbsorb_cbcDir (s : State) : s.cmacAbsorb.cbcDir = s.cbcDir := rfl
@[simp] theorem State.cmacAbsorb_cmacAct (s : State) : s.cmacAbsorb.cmacAct = s.cmacAct := rfl
@[simp] theorem State.cmacAbsorb_skv (s : State) : s.cmacAbsorb.skv = s.skv := rfl
@[simp] theorem State.cmacAbsorb_tagv (s : State) : s.cmacAbsorb.tagv = s.tagv := rfl
@[simp] theorem State.cmacAbsorb_errcode (s : State) : s.cmacAbsorb.errcode = s.errcode := rfl
@[simp] theorem State.cmacAbsorb_irqen (s : State) : s.cmacAbsorb.irqen = s.irqen := rfl
@[simp] theorem State.cmacAbsorb_aklen (s : State) : s.cmacAbsorb.aklen = s.aklen := rfl
@[simp] theorem State.cmacAbsorb_xkv (s : State) : s.cmacAbsorb.xkv = s.xkv := rfl
@[simp] theorem State.cmacAbsorb_len (s : State) : s.cmacAbsorb.len = s.len := rfl
@[simp] theorem State.cmacAbsorb_outlen (s : State) : s.cmacAbsorb.outlen = s.outlen := rfl
@[simp] theorem State.cmacAbsorb_blkcnt (s : State) : s.cmacAbsorb.blkcnt = s.blkcnt - 1 := rfl
@[simp] theorem State.cmacAbsorb_akey (s : State) : s.cmacAbsorb.akey = s.akey := rfl
@[simp] theorem State.cmacAbsorb_xkey (s : State) : s.cmacAbsorb.xkey = s.xkey := rfl
@[simp] theorem State.cmacAbsorb_din (s : State) : s.cmacAbsorb.din = s.din := rfl
@[simp] theorem State.cmacAbsorb_dout (s : State) : s.cmacAbsorb.dout = s.dout := rfl
@[simp] theorem State.cmacAbsorb_k1r (s : State) : s.cmacAbsorb.k1r = s.k1r := rfl
@[simp] theorem State.cmacAbsorb_k2r (s : State) : s.cmacAbsorb.k2r = s.k2r := rfl
@[simp] theorem State.cmacAbsorb_mact (s : State) : s.cmacAbsorb.mact = s.mact := rfl
@[simp] theorem State.cmacAbsorb_dbuf (s : State) : s.cmacAbsorb.dbuf = s.dbuf := rfl
@[simp] theorem State.cmacAbsorb_cv (s : State) :
    s.cmacAbsorb.cv = aesEncrypt s.aesKey (xorBlock s.cv s.dinBlock) := rfl
@[simp] theorem State.cmacAbsorb_cmacCmpl (s : State) : s.cmacAbsorb.cmacCmpl = s.cmacCmpl := rfl
@[simp] theorem State.cmacAbsorb_cmacR (s : State) : s.cmacAbsorb.cmacR = s.cmacR := rfl
@[simp] theorem State.cmacAbsorb_rstN (s : State) : s.cmacAbsorb.rstN = s.rstN := rfl
@[simp] theorem State.cmacAbsorb_rdata (s : State) : s.cmacAbsorb.rdata = s.rdata := rfl
@[simp] theorem State.cmacAbsorb_events (s : State) : s.cmacAbsorb.events = s.events := rfl
@[simp] theorem State.cmacAbsorb_draws (s : State) : s.cmacAbsorb.draws = s.draws := rfl

/-! ### cmacFinish: the last message block (42_cmac.md R200) -/

@[simp] theorem State.cmacFinish_cmd (s : State) : s.cmacFinish.cmd = s.cmd := rfl
@[simp] theorem State.cmacFinish_pend (s : State) : s.cmacFinish.pend = s.pend := rfl
@[simp] theorem State.cmacFinish_done (s : State) : s.cmacFinish.done = s.done := rfl
@[simp] theorem State.cmacFinish_err (s : State) : s.cmacFinish.err = s.err := rfl
@[simp] theorem State.cmacFinish_wdrop (s : State) : s.cmacFinish.wdrop = s.wdrop := rfl
@[simp] theorem State.cmacFinish_cbcAct (s : State) : s.cmacFinish.cbcAct = s.cbcAct := rfl
@[simp] theorem State.cmacFinish_cbcDir (s : State) : s.cmacFinish.cbcDir = s.cbcDir := rfl
@[simp] theorem State.cmacFinish_cmacAct (s : State) : s.cmacFinish.cmacAct = false := rfl
@[simp] theorem State.cmacFinish_skv (s : State) : s.cmacFinish.skv = s.skv := rfl
@[simp] theorem State.cmacFinish_tagv (s : State) : s.cmacFinish.tagv = true := rfl
@[simp] theorem State.cmacFinish_errcode (s : State) : s.cmacFinish.errcode = s.errcode := rfl
@[simp] theorem State.cmacFinish_irqen (s : State) : s.cmacFinish.irqen = s.irqen := rfl
@[simp] theorem State.cmacFinish_aklen (s : State) : s.cmacFinish.aklen = s.aklen := rfl
@[simp] theorem State.cmacFinish_xkv (s : State) : s.cmacFinish.xkv = s.xkv := rfl
@[simp] theorem State.cmacFinish_len (s : State) : s.cmacFinish.len = s.len := rfl
@[simp] theorem State.cmacFinish_outlen (s : State) : s.cmacFinish.outlen = s.outlen := rfl
@[simp] theorem State.cmacFinish_blkcnt (s : State) : s.cmacFinish.blkcnt = 0 := rfl
@[simp] theorem State.cmacFinish_akey (s : State) : s.cmacFinish.akey = s.akey := rfl
@[simp] theorem State.cmacFinish_xkey (s : State) : s.cmacFinish.xkey = s.xkey := rfl
@[simp] theorem State.cmacFinish_din (s : State) : s.cmacFinish.din = s.din := rfl
@[simp] theorem State.cmacFinish_dout (s : State) : s.cmacFinish.dout = fileOfBlock s.cmacTag := rfl
@[simp] theorem State.cmacFinish_k1r (s : State) : s.cmacFinish.k1r = s.k1r := rfl
@[simp] theorem State.cmacFinish_k2r (s : State) : s.cmacFinish.k2r = s.k2r := rfl
@[simp] theorem State.cmacFinish_mact (s : State) : s.cmacFinish.mact = mactOf s.cmacTag := rfl
@[simp] theorem State.cmacFinish_dbuf (s : State) : s.cmacFinish.dbuf = s.dbuf := rfl
@[simp] theorem State.cmacFinish_cv (s : State) : s.cmacFinish.cv = zeroBlock := rfl
@[simp] theorem State.cmacFinish_cmacCmpl (s : State) : s.cmacFinish.cmacCmpl = s.cmacCmpl := rfl
@[simp] theorem State.cmacFinish_cmacR (s : State) : s.cmacFinish.cmacR = s.cmacR := rfl
@[simp] theorem State.cmacFinish_rstN (s : State) : s.cmacFinish.rstN = s.rstN := rfl
@[simp] theorem State.cmacFinish_rdata (s : State) : s.cmacFinish.rdata = s.rdata := rfl
@[simp] theorem State.cmacFinish_events (s : State) : s.cmacFinish.events = s.events := rfl
@[simp] theorem State.cmacFinish_draws (s : State) : s.cmacFinish.draws = s.draws := rfl

/-! ### closeSession: ABORT (44_control.md R281) -/

@[simp] theorem State.closeSession_cmd (s : State) : s.closeSession.cmd = s.cmd := rfl
@[simp] theorem State.closeSession_pend (s : State) : s.closeSession.pend = s.pend := rfl
@[simp] theorem State.closeSession_done (s : State) : s.closeSession.done = s.done := rfl
@[simp] theorem State.closeSession_err (s : State) : s.closeSession.err = s.err := rfl
@[simp] theorem State.closeSession_wdrop (s : State) : s.closeSession.wdrop = s.wdrop := rfl
@[simp] theorem State.closeSession_cbcAct (s : State) : s.closeSession.cbcAct = false := rfl
@[simp] theorem State.closeSession_cbcDir (s : State) : s.closeSession.cbcDir = .encrypt := rfl
@[simp] theorem State.closeSession_cmacAct (s : State) : s.closeSession.cmacAct = false := rfl
@[simp] theorem State.closeSession_skv (s : State) : s.closeSession.skv = s.skv := rfl
@[simp] theorem State.closeSession_tagv (s : State) : s.closeSession.tagv = s.tagv := rfl
@[simp] theorem State.closeSession_errcode (s : State) : s.closeSession.errcode = s.errcode := rfl
@[simp] theorem State.closeSession_irqen (s : State) : s.closeSession.irqen = s.irqen := rfl
@[simp] theorem State.closeSession_aklen (s : State) : s.closeSession.aklen = s.aklen := rfl
@[simp] theorem State.closeSession_xkv (s : State) : s.closeSession.xkv = s.xkv := rfl
@[simp] theorem State.closeSession_len (s : State) : s.closeSession.len = s.len := rfl
@[simp] theorem State.closeSession_outlen (s : State) : s.closeSession.outlen = s.outlen := rfl
@[simp] theorem State.closeSession_blkcnt (s : State) : s.closeSession.blkcnt = 0 := rfl
@[simp] theorem State.closeSession_akey (s : State) : s.closeSession.akey = s.akey := rfl
@[simp] theorem State.closeSession_xkey (s : State) : s.closeSession.xkey = s.xkey := rfl
@[simp] theorem State.closeSession_din (s : State) : s.closeSession.din = s.din := rfl
@[simp] theorem State.closeSession_dout (s : State) : s.closeSession.dout = s.dout := rfl
@[simp] theorem State.closeSession_k1r (s : State) : s.closeSession.k1r = s.k1r := rfl
@[simp] theorem State.closeSession_k2r (s : State) : s.closeSession.k2r = s.k2r := rfl
@[simp] theorem State.closeSession_mact (s : State) : s.closeSession.mact = s.mact := rfl
@[simp] theorem State.closeSession_dbuf (s : State) : s.closeSession.dbuf = s.dbuf := rfl
@[simp] theorem State.closeSession_cv (s : State) :
    s.closeSession.cv = .replicate (.replicate 0) := rfl
@[simp] theorem State.closeSession_cmacCmpl (s : State) : s.closeSession.cmacCmpl = false := rfl
@[simp] theorem State.closeSession_cmacR (s : State) : s.closeSession.cmacR = 0 := rfl
@[simp] theorem State.closeSession_rstN (s : State) : s.closeSession.rstN = s.rstN := rfl
@[simp] theorem State.closeSession_rdata (s : State) : s.closeSession.rdata = s.rdata := rfl
@[simp] theorem State.closeSession_events (s : State) : s.closeSession.events = s.events := rfl
@[simp] theorem State.closeSession_draws (s : State) : s.closeSession.draws = s.draws := rfl

/-! ### resetEffect: the reset effect (70_reset_and_hazards.md R341) -/

@[simp] theorem State.resetEffect_cmd (s : State) : s.resetEffect.cmd = 0 := rfl
@[simp] theorem State.resetEffect_pend (s : State) : s.resetEffect.pend = none := rfl
@[simp] theorem State.resetEffect_done (s : State) : s.resetEffect.done = false := rfl
@[simp] theorem State.resetEffect_err (s : State) : s.resetEffect.err = false := rfl
@[simp] theorem State.resetEffect_wdrop (s : State) : s.resetEffect.wdrop = false := rfl
@[simp] theorem State.resetEffect_cbcAct (s : State) : s.resetEffect.cbcAct = false := rfl
@[simp] theorem State.resetEffect_cbcDir (s : State) : s.resetEffect.cbcDir = .encrypt := rfl
@[simp] theorem State.resetEffect_cmacAct (s : State) : s.resetEffect.cmacAct = false := rfl
@[simp] theorem State.resetEffect_skv (s : State) : s.resetEffect.skv = false := rfl
@[simp] theorem State.resetEffect_tagv (s : State) : s.resetEffect.tagv = false := rfl
@[simp] theorem State.resetEffect_errcode (s : State) : s.resetEffect.errcode = .ok := rfl
@[simp] theorem State.resetEffect_irqen (s : State) : s.resetEffect.irqen = 0 := rfl
@[simp] theorem State.resetEffect_aklen (s : State) : s.resetEffect.aklen = 0 := rfl
@[simp] theorem State.resetEffect_xkv (s : State) : s.resetEffect.xkv = false := rfl
@[simp] theorem State.resetEffect_len (s : State) : s.resetEffect.len = 0 := rfl
@[simp] theorem State.resetEffect_outlen (s : State) : s.resetEffect.outlen = 0 := rfl
@[simp] theorem State.resetEffect_blkcnt (s : State) : s.resetEffect.blkcnt = 0 := rfl
@[simp] theorem State.resetEffect_akey (s : State) : s.resetEffect.akey = .replicate 0 := rfl
@[simp] theorem State.resetEffect_xkey (s : State) : s.resetEffect.xkey = .replicate 0 := rfl
@[simp] theorem State.resetEffect_din (s : State) : s.resetEffect.din = .replicate 0 := rfl
@[simp] theorem State.resetEffect_dout (s : State) : s.resetEffect.dout = .replicate 0 := rfl
@[simp] theorem State.resetEffect_k1r (s : State) : s.resetEffect.k1r = .replicate 0 := rfl
@[simp] theorem State.resetEffect_k2r (s : State) : s.resetEffect.k2r = .replicate 0 := rfl
@[simp] theorem State.resetEffect_mact (s : State) : s.resetEffect.mact = ⟨0, 0⟩ := rfl
@[simp] theorem State.resetEffect_dbuf (s : State) :
    s.resetEffect.dbuf = drawMemory s.draws s.xw := rfl
@[simp] theorem State.resetEffect_cv (s : State) :
    s.resetEffect.cv = .replicate (.replicate 0) := rfl
@[simp] theorem State.resetEffect_cmacCmpl (s : State) : s.resetEffect.cmacCmpl = false := rfl
@[simp] theorem State.resetEffect_cmacR (s : State) : s.resetEffect.cmacR = 0 := rfl
@[simp] theorem State.resetEffect_rstN (s : State) : s.resetEffect.rstN = s.rstN := rfl
@[simp] theorem State.resetEffect_rdata (s : State) : s.resetEffect.rdata = s.rdata := rfl
@[simp] theorem State.resetEffect_events (s : State) : s.resetEffect.events = s.events := rfl
@[simp] theorem State.resetEffect_draws (s : State) : s.resetEffect.draws = s.draws + 1 := rfl

/-! ### releaseReset: leaving reset (70_reset_and_hazards.md R340) -/

@[simp] theorem State.releaseReset_cmd (s : State) : s.releaseReset.cmd = s.cmd := rfl
@[simp] theorem State.releaseReset_pend (s : State) : s.releaseReset.pend = s.pend := rfl
@[simp] theorem State.releaseReset_done (s : State) : s.releaseReset.done = s.done := rfl
@[simp] theorem State.releaseReset_err (s : State) : s.releaseReset.err = s.err := rfl
@[simp] theorem State.releaseReset_wdrop (s : State) : s.releaseReset.wdrop = s.wdrop := rfl
@[simp] theorem State.releaseReset_cbcAct (s : State) : s.releaseReset.cbcAct = s.cbcAct := rfl
@[simp] theorem State.releaseReset_cbcDir (s : State) : s.releaseReset.cbcDir = s.cbcDir := rfl
@[simp] theorem State.releaseReset_cmacAct (s : State) : s.releaseReset.cmacAct = s.cmacAct := rfl
@[simp] theorem State.releaseReset_skv (s : State) : s.releaseReset.skv = s.skv := rfl
@[simp] theorem State.releaseReset_tagv (s : State) : s.releaseReset.tagv = s.tagv := rfl
@[simp] theorem State.releaseReset_errcode (s : State) : s.releaseReset.errcode = s.errcode := rfl
@[simp] theorem State.releaseReset_irqen (s : State) : s.releaseReset.irqen = s.irqen := rfl
@[simp] theorem State.releaseReset_aklen (s : State) : s.releaseReset.aklen = s.aklen := rfl
@[simp] theorem State.releaseReset_xkv (s : State) : s.releaseReset.xkv = s.xkv := rfl
@[simp] theorem State.releaseReset_len (s : State) : s.releaseReset.len = s.len := rfl
@[simp] theorem State.releaseReset_outlen (s : State) : s.releaseReset.outlen = s.outlen := rfl
@[simp] theorem State.releaseReset_blkcnt (s : State) : s.releaseReset.blkcnt = s.blkcnt := rfl
@[simp] theorem State.releaseReset_akey (s : State) : s.releaseReset.akey = s.akey := rfl
@[simp] theorem State.releaseReset_xkey (s : State) : s.releaseReset.xkey = s.xkey := rfl
@[simp] theorem State.releaseReset_din (s : State) : s.releaseReset.din = s.din := rfl
@[simp] theorem State.releaseReset_dout (s : State) : s.releaseReset.dout = s.dout := rfl
@[simp] theorem State.releaseReset_k1r (s : State) : s.releaseReset.k1r = s.k1r := rfl
@[simp] theorem State.releaseReset_k2r (s : State) : s.releaseReset.k2r = s.k2r := rfl
@[simp] theorem State.releaseReset_mact (s : State) : s.releaseReset.mact = s.mact := rfl
@[simp] theorem State.releaseReset_dbuf (s : State) : s.releaseReset.dbuf = s.dbuf := rfl
@[simp] theorem State.releaseReset_cv (s : State) : s.releaseReset.cv = s.cv := rfl
@[simp] theorem State.releaseReset_cmacCmpl (s : State) :
    s.releaseReset.cmacCmpl = s.cmacCmpl := rfl
@[simp] theorem State.releaseReset_cmacR (s : State) : s.releaseReset.cmacR = s.cmacR := rfl
@[simp] theorem State.releaseReset_rstN (s : State) : s.releaseReset.rstN = true := rfl
@[simp] theorem State.releaseReset_rdata (s : State) : s.releaseReset.rdata = s.rdata := rfl
@[simp] theorem State.releaseReset_events (s : State) : s.releaseReset.events = s.events := rfl
@[simp] theorem State.releaseReset_draws (s : State) : s.releaseReset.draws = s.draws := rfl

/-! ### The operands of a state (30_encoding.md R102) -/

theorem State.busy_eq (s : State) : s.busy = s.pend.isSome := rfl
theorem State.sessionOpen_eq (s : State) : s.sessionOpen = (s.cbcAct || s.cmacAct) := rfl
theorem State.aesKey_eq (s : State) : s.aesKey = blockOfFile s.akey := rfl
theorem State.dinBlock_eq (s : State) : s.dinBlock = blockOfFile s.din := rfl
theorem State.lenNat_eq (s : State) : s.lenNat = s.len.toNat := rfl
theorem State.keyLengthOk_iff (s : State) : s.keyLengthOk = true ↔ s.aklen = 16 := by
  simp [State.keyLengthOk]
theorem State.blockSizeOk_iff (s : State) :
    s.blockSizeOk = true ↔ s.lenNat ≠ 0 ∧ s.lenNat % 16 = 0 := by
  simp [State.blockSizeOk]
theorem State.xw_eq (s : State) : s.xw = s.dbuf.length := rfl

end Sys2Proof.Machine
end

