-- ==== Sys2Proof/Laws/Ops.lean ====
section
/-!
SUPPORT. What each shared operation and each meaning can do, said once: if it answers `next t`, one of
the listed cases holds. Proofs cite these and do not unfold the operation.
-/

namespace Sys2Proof.Machine

open Sys2Proof

/-! ### Host writes (20_memory.md R76) -/

theorem hostWriteReg_cases (s : State) (v : Word) (r : Reg) :
    (dropped s r = true ∧ hostWriteReg s v r = s.dropWrite) ∨
      (dropped s r = false ∧ hostWriteReg s v r = writeReg s v r) := by
  cases h : dropped s r <;> simp [hostWriteReg, h]

/-- While a command is pending, a write that is not dropped is one to STATUS or IRQEN, or is
ignored. -/
theorem writeReg_of_busy (s : State) (v : Word) (r : Reg) (hb : s.busy = true)
    (hd : dropped s r = false) :
    writeReg s v r = s.writeStatus v ∨ writeReg s v r = { s with irqen := v.setWidth 3 } ∨
      writeReg s v r = s := by
  cases r <;> simp_all [dropped, writeReg]

/-! ### The meanings -/

theorem execAesEnc_cases (s t : State) (h : execAesEnc s = .next t) :
    (s.keyLengthOk = false ∧ t = s.commit .invalidKeyLength) ∨
      (s.keyLengthOk = true ∧
        t = (s.putOutput (aesEncrypt s.aesKey s.dinBlock)).commit .ok) := by
  cases hk : s.keyLengthOk <;> simp_all [execAesEnc]

theorem execAesDec_cases (s t : State) (h : execAesDec s = .next t) :
    (s.keyLengthOk = false ∧ t = s.commit .invalidKeyLength) ∨
      (s.keyLengthOk = true ∧
        t = (s.putOutput (aesDecrypt s.aesKey s.dinBlock)).commit .ok) := by
  cases hk : s.keyLengthOk <;> simp_all [execAesDec]

theorem execCbcStart_cases (d : Direction) (s t : State) (h : execCbcStart d s = .next t) :
    (s.sessionOpen = true ∧ t = s.commit .sequence) ∨
      (s.sessionOpen = false ∧ s.keyLengthOk = false ∧ t = s.commit .invalidKeyLength) ∨
      (s.sessionOpen = false ∧ s.keyLengthOk = true ∧ s.blockSizeOk = false ∧
        t = s.commit .invalidBlockSize) ∨
      (s.sessionOpen = false ∧ s.keyLengthOk = true ∧ s.blockSizeOk = true ∧
        t = (s.openCbc d).commit .ok) := by
  cases ho : s.sessionOpen <;> cases hk : s.keyLengthOk <;> cases hb : s.blockSizeOk <;>
    simp_all [execCbcStart]

theorem execCbcBlock_cases (s t : State) (h : execCbcBlock s = .next t) :
    (s.cbcAct = false ∧ t = s.commit .sequence) ∨
      (s.cbcAct = true ∧ s.cbcDir = .encrypt ∧ t = s.cbcEncryptBlock.commit .ok) ∨
      (s.cbcAct = true ∧ s.cbcDir = .decrypt ∧ t = s.cbcDecryptBlock.commit .ok) := by
  cases ha : s.cbcAct <;> cases hd : s.cbcDir <;> simp_all [execCbcBlock]

theorem execCmacSubkeys_cases (s t : State) (h : execCmacSubkeys s = .next t) :
    (s.keyLengthOk = false ∧ t = s.commit .invalidKeyLength) ∨
      (s.keyLengthOk = true ∧ t = s.putSubkeys.commit .ok) := by
  cases hk : s.keyLengthOk <;> simp_all [execCmacSubkeys]

theorem execCmacStart_cases (s t : State) (h : execCmacStart s = .next t) :
    (s.sessionOpen = true ∧ t = s.commit .sequence) ∨
      (s.sessionOpen = false ∧ s.keyLengthOk = false ∧ t = s.commit .invalidKeyLength) ∨
      (s.sessionOpen = false ∧ s.keyLengthOk = true ∧ t = s.openCmac.commit .ok) := by
  cases ho : s.sessionOpen <;> cases hk : s.keyLengthOk <;> simp_all [execCmacStart]

theorem execCmacBlock_cases (s t : State) (h : execCmacBlock s = .next t) :
    (s.cmacAct = false ∧ t = s.commit .sequence) ∨
      (s.cmacAct = true ∧ 1 < s.blkcnt.toNat ∧ t = s.cmacAbsorb.commit .ok) ∨
      (s.cmacAct = true ∧ s.blkcnt.toNat ≤ 1 ∧ t = s.cmacFinish.commit .ok) := by
  by_cases hb : 1 < s.blkcnt.toNat <;> cases ha : s.cmacAct <;>
    simp_all [execCmacBlock]

theorem execXxteaEncw_cases (s t : State) (h : execXxteaEncw s = .next t) :
    (s.xkv = false ∧ t = s.commit .invalidKey) ∨
      (s.xkv = true ∧ s.xw < s.lenNat ∧ t = s.commit .lengthOverflow) ∨
      (s.xkv = true ∧ s.lenNat ≤ s.xw ∧
        t = (s.putBuffer (xxteaEncryptWords (s.dbuf.take s.lenNat) s.xkey)
          (4 * s.lenNat)).commit .ok) := by
  by_cases hl : s.xw < s.lenNat <;> cases hx : s.xkv <;> simp_all [execXxteaEncw]

theorem execXxteaDecw_cases (s t : State) (h : execXxteaDecw s = .next t) :
    (s.xkv = false ∧ t = s.commit .invalidKey) ∨
      (s.xkv = true ∧ s.xw < s.lenNat ∧ t = s.commit .lengthOverflow) ∨
      (s.xkv = true ∧ s.lenNat ≤ s.xw ∧
        t = (s.putBuffer (xxteaDecryptWords (s.dbuf.take s.lenNat) s.xkey)
          (4 * s.lenNat)).commit .ok) := by
  by_cases hl : s.xw < s.lenNat <;> cases hx : s.xkv <;> simp_all [execXxteaDecw]

theorem execXxteaEncb_cases (s t : State) (h : execXxteaEncb s = .next t) :
    (s.xkv = false ∧ t = s.commit .invalidKey) ∨
      (s.xkv = true ∧ s.lenNat = 0 ∧ t = (s.putBuffer [] 0).commit .ok) ∨
      (s.xkv = true ∧ s.lenNat ≠ 0 ∧ s.xw < wordsFor s.lenNat + 1 ∧
        t = s.commit .lengthOverflow) ∨
      (s.xkv = true ∧ s.lenNat ≠ 0 ∧ wordsFor s.lenNat + 1 ≤ s.xw ∧
        t = (s.putBuffer (xxteaEncryptWords (encbInput s.dbuf s.lenNat) s.xkey)
          (4 * (wordsFor s.lenNat + 1))).commit .ok) := by
  by_cases h0 : s.lenNat = 0 <;> by_cases hl : s.xw < wordsFor s.lenNat + 1 <;>
    cases hx : s.xkv <;> simp_all [execXxteaEncb]

/-- The words XXTEA_DECB leaves before it looks at the stored length (43_xxtea.md R245). -/
abbrev State.decbWords (s : State) : List Word :=
  xxteaDecryptWords (decbInput s.dbuf s.lenNat) s.xkey

theorem execXxteaDecb_cases (s t : State) (h : execXxteaDecb s = .next t) :
    (s.xkv = false ∧ t = s.commit .invalidKey) ∨
      (s.xkv = true ∧ s.lenNat = 0 ∧ t = (s.putBuffer [] 0).commit .ok) ∨
      (s.xkv = true ∧ s.lenNat ≠ 0 ∧ s.xw < wordsFor s.lenNat ∧ t = s.commit .lengthOverflow) ∨
      (s.xkv = true ∧ s.lenNat ≠ 0 ∧ wordsFor s.lenNat ≤ s.xw ∧
        4 * wordsFor s.lenNat < storedLength s.decbWords ∧
        t = (s.putBuffer (List.replicate (wordsFor s.lenNat) 0) 0).commit .corruptedCiphertext) ∨
      (s.xkv = true ∧ s.lenNat ≠ 0 ∧ wordsFor s.lenNat ≤ s.xw ∧
        storedLength s.decbWords ≤ 4 * wordsFor s.lenNat ∧
        t = (s.putBuffer s.decbWords (storedLength s.decbWords)).commit .ok) := by
  by_cases h0 : s.lenNat = 0 <;> by_cases hl : s.xw < wordsFor s.lenNat <;>
    by_cases hc : 4 * wordsFor s.lenNat < storedLength s.decbWords <;>
    cases hx : s.xkv <;> simp_all [execXxteaDecb]

theorem execNop_cases (s t : State) (h : execNop s = .next t) : t = s.commit .ok := by
  simp_all [execNop]

theorem execAbort_cases (s t : State) (h : execAbort s = .next t) :
    t = s.closeSession.commit .ok := by
  simp_all [execAbort]

theorem execSreset_cases (s t : State) (h : execSreset s = .next t) : t = s.resetEffect := by
  simp_all [execSreset]

/-! ### Events and steps -/

theorem runWord_cases (w : Word) (s t : State) (h : runWord w s = .next t) :
    (∃ i, decode w = .ok i ∧ exec i s = .next t) ∨
      (∃ e, decode w = .error e ∧ t = s.commit .illegalCommand) := by
  unfold runWord at h
  split at h
  · exact .inl ⟨_, ‹_›, h⟩
  · exact .inr ⟨_, ‹_›, by simp_all⟩

theorem engineTurn_cases (s t : State) (h : engineTurn s = .next t) :
    ((s.rstN = false ∨ s.pend = none) ∧ t = s) ∨
      (s.rstN = true ∧ ∃ w, s.pend = some w ∧ runWord w s = .next t) := by
  unfold engineTurn at h
  split at h
  · split at h
    · exact .inl ⟨.inr ‹_›, by simp_all⟩
    · exact .inr ⟨‹_›, _, ‹_›, h⟩
  · exact .inl ⟨.inl (by simp_all), by simp_all⟩

theorem busWrite_cases (a : BitVec 10) (v : Word) (s t : State) (h : busWrite a v s = .next t) :
    (s.rstN = false ∧ t = s) ∨
      (s.rstN = true ∧ s.regOf a = .cmd ∧ v = sresetWord ∧ t = s.resetEffect) ∨
      (s.rstN = true ∧ ¬(s.regOf a = .cmd ∧ v = sresetWord) ∧
        t = hostWriteReg s v (s.regOf a)) := by
  unfold busWrite at h
  split at h
  · split at h
    · next hc => exact .inr (.inl ⟨‹_›, hc.1, hc.2, execSreset_cases s t h⟩)
    · exact .inr (.inr ⟨‹_›, ‹_›, by simp_all⟩)
  · exact .inl (by simp_all)

theorem takeEvent_of_cons (s : State) (e : Event) (es : List Event) (h : s.events = e :: es) :
    s.takeEvent = { s with events := es, rdata := none } := by
  simp [State.takeEvent, h]

/-- A step with an event to come runs it on the state with it taken off the list. -/
theorem step_of_cons (s : State) (e : Event) (es : List Event) (h : s.events = e :: es) :
    step s = runEvent e { s with events := es, rdata := none } := by
  rw [step, takeEvent_of_cons s e es h, State.nextEvent, h]
  rfl

/-- A host write outside reset, SRESET apart, is dropped or takes effect. -/
theorem busWrite_of_running (a : BitVec 10) (v : Word) (s : State) (hr : s.rstN = true)
    (hs : ¬(s.regOf a = .cmd ∧ v = sresetWord)) :
    busWrite a v s = .next (hostWriteReg s v (s.regOf a)) := by
  rw [busWrite, if_pos hr, if_neg hs]

/-- The engine's turn outside reset with a command pending. -/
theorem engineTurn_of_pending (s : State) (w : Word) (hr : s.rstN = true) (hp : s.pend = some w) :
    engineTurn s = runWord w s := by
  rw [engineTurn, if_pos hr, hp]

/-- Everything a step can do: the next event runs on the state with it taken off the list. -/
theorem step_cases (s t : State) (h : step s = .next t) :
    (∃ a, s.nextEvent = .busRead a ∧ t = s.takeEvent.busRead a) ∨
      (∃ a v, s.nextEvent = .busWrite a v ∧ busWrite a v s.takeEvent = .next t) ∨
      (s.nextEvent = .engine ∧ engineTurn s.takeEvent = .next t) ∨
      (s.nextEvent = .resetLow ∧ t = s.takeEvent.holdReset) ∨
      (s.nextEvent = .resetHigh ∧ t = s.takeEvent.releaseReset) := by
  unfold step at h
  cases he : s.nextEvent <;> simp_all [runEvent]

/-- `runSteps` is the host's own run of this machine. -/
theorem runSteps_eq_run (k : Nat) (s : State) :
    runSteps k s =
      Host.Core.run
        { State := State, Fault := Fault, Refusal := Refusal, step := step,
          reset := State.reset } k s := by
  induction k generalizing s with
  | zero => rfl
  | succ k ih =>
    unfold runSteps Host.Core.run
    simp only
    cases step s <;> simp [ih]

end Sys2Proof.Machine
end

