-- ==== Sys2Proof/Laws/Memory.lean ====
section
/-!
SUPPORT. The buffer memory keeps its form: no operation on DBUF changes its capacity, so each keeps
`Memory.wf` (00_scope.md R7, 10_state.md R50).
-/

namespace Sys2Proof.Machine

open Sys2Proof

theorem Memory.wf_of_length (m m' : Memory) (h : m'.length = m.length) (hm : m.wf = true) :
    m'.wf = true := by
  unfold Memory.wf at *
  rw [h]
  exact hm

@[simp] theorem drawMemory_length (n xw : Nat) : (drawMemory n xw).length = xw := by
  simp [drawMemory]

/-! ### Word arrays keep their length -/

@[simp] theorem memSetByte_length (m : List Word) (j : Nat) (b : Byte) :
    (memSetByte m j b).length = m.length := by
  simp [memSetByte]

@[simp] theorem zeroFill_length (m : List Word) (b w : Nat) :
    (zeroFill m b w).length = m.length := by
  have key : ∀ (l : List Nat) (m : List Word),
      (l.foldl (fun m t => memSetByte m (b + t) 0x00) m).length = m.length := by
    intro l
    induction l with
    | nil => intro m; rfl
    | cons t l ih => intro m; rw [List.foldl_cons, ih, memSetByte_length]
  exact key _ m

theorem foldl_fst_length {β γ : Type} (f : List Word × β → γ → List Word × β)
    (hf : ∀ vz p, (f vz p).1.length = vz.1.length) (l : List γ) (vz : List Word × β) :
    (l.foldl f vz).1.length = vz.1.length := by
  induction l generalizing vz with
  | nil => rfl
  | cons p l ih => rw [List.foldl_cons, ih, hf]

@[simp] theorem xxteaEncryptRound_length (k : WordFile) (n : Nat) (sum : Word)
    (vz : List Word × Word) : (xxteaEncryptRound k n sum vz).1.length = vz.1.length := by
  simp only [xxteaEncryptRound, List.length_set]
  exact foldl_fst_length _ (fun vz p => by simp [encryptStep]) _ vz

@[simp] theorem xxteaDecryptRound_length (k : WordFile) (n : Nat) (sum : Word)
    (vy : List Word × Word) : (xxteaDecryptRound k n sum vy).1.length = vy.1.length := by
  simp only [xxteaDecryptRound, List.length_set]
  exact foldl_fst_length _ (fun vy p => by simp [decryptStep]) _ vy

@[simp] theorem encryptLoop_length (k : WordFile) (n q : Nat) (sum : Word)
    (vz : List Word × Word) : (encryptLoop k n q sum vz).1.length = vz.1.length := by
  induction q generalizing sum vz with
  | zero => rfl
  | succ q ih => rw [encryptLoop, ih, xxteaEncryptRound_length]

@[simp] theorem decryptLoop_length (k : WordFile) (n q : Nat) (sum : Word)
    (vy : List Word × Word) : (decryptLoop k n q sum vy).1.length = vy.1.length := by
  induction q generalizing sum vy with
  | zero => rfl
  | succ q ih =>
    rw [decryptLoop]
    split
    · rfl
    · rw [ih, xxteaDecryptRound_length]

@[simp] theorem xxteaEncryptWords_length (v : List Word) (k : WordFile) :
    (xxteaEncryptWords v k).length = v.length := by
  simp only [xxteaEncryptWords]
  split <;> simp

@[simp] theorem xxteaDecryptWords_length (v : List Word) (k : WordFile) :
    (xxteaDecryptWords v k).length = v.length := by
  simp only [xxteaDecryptWords]
  split <;> simp

theorem encbInput_length (m : List Word) (b : Nat) (h : wordsFor b + 1 ≤ m.length) :
    (encbInput m b).length = wordsFor b + 1 := by
  simp [encbInput]
  omega

theorem decbInput_length (m : List Word) (b : Nat) (h : wordsFor b ≤ m.length) :
    (decbInput m b).length = wordsFor b := by
  simp [decbInput]
  omega

/-! ### The operations on State keep the buffer's form -/

theorem putBuffer_xw (v : List Word) (n : Nat) (s : State) (h : v.length ≤ s.xw) :
    (s.putBuffer v n).xw = s.xw := by
  simp only [State.xw, State.putBuffer_dbuf, List.length_append, List.length_drop] at *
  omega

@[simp] theorem commit_xw (c : ErrCode) (s : State) : (s.commit c).xw = s.xw := rfl

theorem writeReg_xw (s : State) (v : Word) (r : Reg) : (writeReg s v r).xw = s.xw := by
  cases r <;> simp [writeReg, State.xw]

theorem hostWriteReg_xw (s : State) (v : Word) (r : Reg) : (hostWriteReg s v r).xw = s.xw := by
  rcases hostWriteReg_cases s v r with ⟨_, h⟩ | ⟨_, h⟩ <;> rw [h]
  · rfl
  · exact writeReg_xw s v r

theorem resetEffect_xw (s : State) : s.resetEffect.xw = s.xw := by
  simp [State.xw]

theorem exec_xw (i : Instr) (s t : State) (h : exec i s = .next t) : t.xw = s.xw := by
  cases i with
  | nop => rw [execNop_cases s t h]; rfl
  | aesEnc => rcases execAesEnc_cases s t h with ⟨_, rfl⟩ | ⟨_, rfl⟩ <;> rfl
  | aesDec => rcases execAesDec_cases s t h with ⟨_, rfl⟩ | ⟨_, rfl⟩ <;> rfl
  | cbcStart d =>
    rcases execCbcStart_cases d s t h with
      ⟨_, rfl⟩ | ⟨_, _, rfl⟩ | ⟨_, _, _, rfl⟩ | ⟨_, _, _, rfl⟩ <;> rfl
  | cbcBlock =>
    rcases execCbcBlock_cases s t h with ⟨_, rfl⟩ | ⟨_, _, rfl⟩ | ⟨_, _, rfl⟩ <;> rfl
  | cmacSubkeys => rcases execCmacSubkeys_cases s t h with ⟨_, rfl⟩ | ⟨_, rfl⟩ <;> rfl
  | cmacStart =>
    rcases execCmacStart_cases s t h with ⟨_, rfl⟩ | ⟨_, _, rfl⟩ | ⟨_, _, rfl⟩ <;> rfl
  | cmacBlock =>
    rcases execCmacBlock_cases s t h with ⟨_, rfl⟩ | ⟨_, _, rfl⟩ | ⟨_, _, rfl⟩ <;> rfl
  | xxteaEncw =>
    rcases execXxteaEncw_cases s t h with ⟨_, rfl⟩ | ⟨_, _, rfl⟩ | ⟨_, _, rfl⟩
    · rfl
    · rfl
    · rw [commit_xw]; exact putBuffer_xw _ _ s (by simp [State.xw])
  | xxteaEncb =>
    rcases execXxteaEncb_cases s t h with ⟨_, rfl⟩ | ⟨_, _, rfl⟩ | ⟨_, _, _, rfl⟩ | ⟨_, _, hl, rfl⟩
    · rfl
    · rw [commit_xw]; exact putBuffer_xw _ _ s (by simp)
    · rfl
    · rw [commit_xw]; exact putBuffer_xw _ _ s (by rw [xxteaEncryptWords_length, encbInput_length _ _ hl]; exact hl)
  | xxteaDecw =>
    rcases execXxteaDecw_cases s t h with ⟨_, rfl⟩ | ⟨_, _, rfl⟩ | ⟨_, _, rfl⟩
    · rfl
    · rfl
    · rw [commit_xw]; exact putBuffer_xw _ _ s (by simp [State.xw])
  | xxteaDecb =>
    rcases execXxteaDecb_cases s t h with
      ⟨_, rfl⟩ | ⟨_, _, rfl⟩ | ⟨_, _, _, rfl⟩ | ⟨_, _, hl, _, rfl⟩ | ⟨_, _, hl, _, rfl⟩
    · rfl
    · rw [commit_xw]; exact putBuffer_xw _ _ s (by simp)
    · rfl
    · rw [commit_xw]; exact putBuffer_xw _ _ s (by rw [List.length_replicate]; exact hl)
    · rw [commit_xw]; exact putBuffer_xw _ _ s (by rw [xxteaDecryptWords_length, decbInput_length _ _ hl]; exact hl)
  | abort => rw [execAbort_cases s t h]; rfl
  | sreset => rw [execSreset_cases s t h]; exact resetEffect_xw s

/-- XW is a constant of a run: no step changes the buffer's capacity (10_state.md R54, log 2). -/
theorem step_xw (s t : State) (h : step s = .next t) : t.xw = s.xw := by
  rcases step_cases s t h with ⟨a, _, rfl⟩ | ⟨a, v, _, hw⟩ | ⟨_, he⟩ | ⟨_, rfl⟩ | ⟨_, rfl⟩
  · rfl
  · rcases busWrite_cases a v _ t hw with ⟨_, rfl⟩ | ⟨_, _, _, rfl⟩ | ⟨_, _, rfl⟩
    · rfl
    · exact resetEffect_xw s.takeEvent
    · exact hostWriteReg_xw s.takeEvent v _
  · rcases engineTurn_cases _ t he with ⟨_, rfl⟩ | ⟨_, w, _, hr⟩
    · rfl
    · rcases runWord_cases w _ t hr with ⟨i, _, hx⟩ | ⟨_, _, rfl⟩
      · exact exec_xw i s.takeEvent t hx
      · rfl
  · exact resetEffect_xw s.takeEvent
  · rfl

/-- Every step keeps the buffer's form. -/
theorem step_keeps_wf (s t : State) (h : step s = .next t) (hm : Memory.wf s.dbuf = true) :
    Memory.wf t.dbuf = true :=
  Memory.wf_of_length s.dbuf t.dbuf (step_xw s t h) hm

theorem reset_wf : Memory.wf State.reset.dbuf = true := by
  simp [Memory.wf, State.reset, Config.xwLegal, Config.xw]

end Sys2Proof.Machine
end

