-- ==== Sys2Proof/Laws/PerInstr.lean ====
section
/-!
SUPPORT. Statements about every command as syntax, one lemma per constructor of `Instr`.
-/

namespace Sys2Proof.Laws

open Sys2Proof

/-- The word a command encodes to is legal, has RSV = 0, and is not the word of SRESET unless the
command is SRESET (30_encoding.md R101, R104, R106). -/
def EncodesLegally.Statement (i : Instr) : Prop :=
  legalWord (encode i) = true ∧ (fieldsOf (encode i)).rsv = 0 ∧
    (encode i = sresetWord → i = .sreset)

theorem EncodesLegally.nop : EncodesLegally.Statement .nop := by
  unfold EncodesLegally.Statement; decide
theorem EncodesLegally.aesEnc : EncodesLegally.Statement .aesEnc := by
  unfold EncodesLegally.Statement; decide
theorem EncodesLegally.aesDec : EncodesLegally.Statement .aesDec := by
  unfold EncodesLegally.Statement; decide
theorem EncodesLegally.cbcStart (d : Direction) : EncodesLegally.Statement (.cbcStart d) := by
  unfold EncodesLegally.Statement; cases d <;> decide
theorem EncodesLegally.cbcBlock : EncodesLegally.Statement .cbcBlock := by
  unfold EncodesLegally.Statement; decide
theorem EncodesLegally.cmacSubkeys : EncodesLegally.Statement .cmacSubkeys := by
  unfold EncodesLegally.Statement; decide
theorem EncodesLegally.cmacStart : EncodesLegally.Statement .cmacStart := by
  unfold EncodesLegally.Statement; decide
theorem EncodesLegally.cmacBlock : EncodesLegally.Statement .cmacBlock := by
  unfold EncodesLegally.Statement; decide
theorem EncodesLegally.xxteaEncw : EncodesLegally.Statement .xxteaEncw := by
  unfold EncodesLegally.Statement; decide
theorem EncodesLegally.xxteaEncb : EncodesLegally.Statement .xxteaEncb := by
  unfold EncodesLegally.Statement; decide
theorem EncodesLegally.xxteaDecw : EncodesLegally.Statement .xxteaDecw := by
  unfold EncodesLegally.Statement; decide
theorem EncodesLegally.xxteaDecb : EncodesLegally.Statement .xxteaDecb := by
  unfold EncodesLegally.Statement; decide
theorem EncodesLegally.abort : EncodesLegally.Statement .abort := by
  unfold EncodesLegally.Statement; decide
theorem EncodesLegally.sreset : EncodesLegally.Statement .sreset := by
  unfold EncodesLegally.Statement; decide

end Sys2Proof.Laws
end

