-- ==== Sys2Proof/Tests/Slice0.lean ====
section
/-!
SUPPORT. Tests: the checks on command words, the decoding of words written out from 30_encoding.md
R107, one-step tests with results from 95_test_vectors.md, and for every statement with hypotheses a
state and operands that meet them.
-/

namespace Sys2Proof.Tests

open Sys2Proof Sys2Proof.Machine

/-! ### The checks on command words (30_encoding.md R104; V-E1) -/

theorem test_check_refuses_reserved_bits :
    (fieldsOf 0x00000201).rsvZero = false ∧ (fieldsOf 0x00000201).wellFormed = false ∧
      decode 0x00000201 = .error .reservedBits := by decide

theorem test_check_refuses_reserved_opcodes :
    (fieldsOf 0x0000000A).opAssigned = false ∧ (fieldsOf 0x0000000A).wellFormed = false ∧
      decode 0x0000000A = .error .reservedOpcode ∧ decode 0x0000000D = .error .reservedOpcode ∧
      decode 0x00000010 = .error .reservedOpcode ∧ decode 0x000000FF = .error .reservedOpcode := by
  decide

theorem test_check_refuses_the_modifier_bit :
    (fieldsOf 0x00000101).modifierAllowed = false ∧ (fieldsOf 0x00000101).wellFormed = false ∧
      decode 0x00000101 = .error .modifierSet ∧ decode 0x00000104 = .error .modifierSet ∧
      decode 0x0000010F = .error .modifierSet := by decide

theorem test_legal_words :
    legalWord 0x00000103 = true ∧ legalWord 0x00000109 = true ∧ legalWord 0x80000000 = false := by
  decide

/-! ### Decoding: RSV (23 bits), M, OP (8 bits), written out from 30_encoding.md R101 and R107 -/

theorem test_decode_nop :
    decode 0b00000000000000000000000000000000 = .ok .nop := by decide
theorem test_decode_aes_enc :
    decode 0b00000000000000000000000000000001 = .ok .aesEnc := by decide
theorem test_decode_aes_dec :
    decode 0b00000000000000000000000000000010 = .ok .aesDec := by decide
theorem test_decode_cbc_start_encrypt :
    decode 0b00000000000000000000000000000011 = .ok (.cbcStart .encrypt) := by decide
theorem test_decode_cbc_start_decrypt :
    decode 0b00000000000000000000000100000011 = .ok (.cbcStart .decrypt) := by decide
theorem test_decode_cbc_block :
    decode 0b00000000000000000000000000000100 = .ok .cbcBlock := by decide
theorem test_decode_cmac_subkeys :
    decode 0b00000000000000000000000000000101 = .ok .cmacSubkeys := by decide
theorem test_decode_cmac_start :
    decode 0b00000000000000000000000000000110 = .ok .cmacStart := by decide
theorem test_decode_cmac_block :
    decode 0b00000000000000000000000000000111 = .ok .cmacBlock := by decide
theorem test_decode_xxtea_encw :
    decode 0b00000000000000000000000000001000 = .ok .xxteaEncw := by decide
theorem test_decode_xxtea_encb :
    decode 0b00000000000000000000000100001000 = .ok .xxteaEncb := by decide
theorem test_decode_xxtea_decw :
    decode 0b00000000000000000000000000001001 = .ok .xxteaDecw := by decide
theorem test_decode_xxtea_decb :
    decode 0b00000000000000000000000100001001 = .ok .xxteaDecb := by decide
theorem test_decode_abort :
    decode 0b00000000000000000000000000001110 = .ok .abort := by decide
theorem test_decode_sreset :
    decode 0b00000000000000000000000000001111 = .ok .sreset := by decide
theorem test_table_words :
    decodeTableWord 32 0x00000103 = some (.cbcStart .decrypt) ∧ decodeTableWord 8 0x0F = some .sreset ∧
      decodeTableWord 32 0x0000000A = none := by decide

/-! ### The states of the tests -/

/-- A field of the next state, none after a fault or a refusal. -/
def fieldOf {α : Type} (f : State → α) : Host.Outcome State Fault Refusal → Option α
  | .next t => some (f t)
  | .fault _ => none
  | .refused _ => none

/-- XK1 of 95_test_vectors.md. -/
def keyX : WordFile := ⟨0x03020100, 0x07060504, 0x0B0A0908, 0x0F0E0D0C⟩

/-- K of 95_test_vectors.md. -/
def keyK : WordFile := ⟨0x16157E2B, 0xA6D2AE28, 0x8815F7AB, 0x3C4FCF09⟩

/-- M1 of 95_test_vectors.md. -/
def blockM : WordFile := fileOfBlock (blkBe 0x6bc1bee22e409f96e93d7e117393172a)

/-- An idle block with a small buffer of zeros, KEYCFG = 0x00000110, key XK1 and the all-zero AES
key. -/
def idle : State :=
  { State.reset with dbuf := [0, 0, 0, 0], aklen := 16, xkv := true, xkey := keyX }

/-- A CBC session with `n` blocks to come, key K. -/
def cbcOpen (d : Direction) (n : Word) : State :=
  { idle with akey := keyK, cbcAct := true, cbcDir := d, blkcnt := n }

/-- A CMAC session with `n` blocks to come. -/
def cmacOpen (n : Word) : State := { idle with cmacAct := true, blkcnt := n }

/-- The command word `w` is pending. -/
def busyWith (w : Word) : State := idle.accept w

/-- The host's write comes next. -/
def withWrite (s : State) (a : BitVec 10) (v : Word) : State :=
  { s with events := [.busWrite a v] }

/-! ### One step -/

theorem test_nop_after_an_error :     -- V-K1
    fieldOf statusWord (exec .nop { idle with err := true, errcode := .illegalCommand }) =
      some 0x00000002 := by decide

theorem test_aes_enc_known_answer :     -- S1, V-A2
    fieldOf (fun t => (t.dout, statusWord t)) (exec .aesEnc idle) =
      some (⟨0xD44BE966, 0x3B2C8AEF, 0x59FA4C88, 0x2E2B34CA⟩, 0x00000002) := by decide +kernel

theorem test_aes_enc_key_length :     -- V-A2
    fieldOf (fun t => (t.dout, statusWord t)) (exec .aesEnc { idle with aklen := 24 }) =
      some (.replicate 0, 0x00001006) := by decide

theorem test_aes_dec_zero_block :     -- V-A1
    fieldOf (fun t => t.dout) (exec .aesDec idle) =
      some ⟨0x100F0F14, 0x3D22B511, 0x17775879, 0x3AECD9FF⟩ := by decide +kernel

theorem test_cbc_start_two_blocks :     -- V-C3
    fieldOf (fun t => (t.blkcnt, statusWord t)) (exec (.cbcStart .decrypt) { idle with len := 0x20 }) =
      some (2, 0x00000032) := by decide

theorem test_cbc_start_bad_length :     -- V-C4
    fieldOf statusWord (exec (.cbcStart .encrypt) { idle with len := 0x18 }) = some 0x00002006 ∧
      fieldOf statusWord (exec (.cbcStart .encrypt) idle) = some 0x00002006 := by decide

theorem test_cbc_block_first :     -- V-C3
    fieldOf (fun t => (t.dout, t.blkcnt, statusWord t))
      (exec .cbcBlock { cbcOpen .encrypt 2 with din := blockM }) =
      some (⟨0xB47BD73A, 0x60367A0D, 0xF3CA9EA8, 0x97EF6624⟩, 1, 0x00000012) := by decide +kernel

theorem test_cbc_block_last_decrypt :     -- V-C3
    fieldOf (fun t => (t.dout, statusWord t))
      (exec .cbcBlock { cbcOpen .decrypt 1 with
        din := ⟨0xB47BD73A, 0x60367A0D, 0xF3CA9EA8, 0x97EF6624⟩ }) =
      some (blockM, 0x00000002) := by decide +kernel

theorem test_cmac_subkeys_both_branches :     -- V-D2, key K0
    fieldOf (fun t => (t.k1r, t.k2r, statusWord t)) (exec .cmacSubkeys idle) =
      some (⟨0xA997D2CD, 0x775814DF, 0xB3F49910, 0x5C566894⟩,
        ⟨0x532FA59B, 0xEEB028BE, 0x67E93321, 0x3FACD028⟩, 0x00000082) := by decide +kernel

theorem test_cmac_start_longest :     -- V-M2
    fieldOf (fun t => (t.blkcnt, t.cmacCmpl, t.cmacR, statusWord t))
      (exec .cmacStart { idle with len := 0xFFFFFFFF }) =
      some (0x10000000, false, 15, 0x000000C2) := by decide +kernel

theorem test_cmac_block_empty_message :     -- V-M3, key K, any DIN
    fieldOf (fun t => (t.dout, t.mact, statusWord t))
      (exec .cmacBlock { cmacOpen 1 with
        akey := keyK, skv := true, din := .replicate 0xFFFFFFFF
        k2r := ⟨0x30ACDDF7, 0xCC66E26A, 0x1EC10BF9, 0x3B516DE4⟩ }) =
      some (⟨0x29691DBB, 0x283759E9, 0x127DA37F, 0x4667759B⟩, ⟨0x2859291D, 0x467512A3⟩,
        0x00000182) := by decide +kernel

theorem test_cmac_block_without_a_session :     -- V-M5
    fieldOf statusWord (exec .cmacBlock idle) = some 0x00007006 := by decide

theorem test_xxtea_encw_two_words :     -- V-X4
    fieldOf (fun t => (t.dbuf.take 2, t.outlen))
      (exec .xxteaEncw { idle with len := 2, dbuf := [1, 2, 0, 0] }) =
      some ([0x859D388C, 0x09C28523], 8) := by decide +kernel

theorem test_xxtea_encw_too_long :     -- V-X9, with XW = 4
    fieldOf statusWord (exec .xxteaEncw { idle with len := 5 }) = some 0x00008006 ∧
      fieldOf statusWord (exec .xxteaEncw { idle with len := 5, xkv := false }) =
        some 0x00005006 := by decide

theorem test_xxtea_encb_ignores_bytes_past_len :     -- V-X7
    fieldOf (fun t => (t.dbuf, t.outlen))
      (exec .xxteaEncb { idle with len := 1, dbuf := [0xEEEEEE61, 0x12345678, 7, 8] }) =
      some ([0xDEB45BF0, 0x078C6806, 7, 8], 8) := by decide +kernel

theorem test_xxtea_decw_two_words :     -- V-X5
    fieldOf (fun t => t.dbuf.take 2)
      (exec .xxteaDecw { idle with len := 2, dbuf := [0x859D388C, 0x09C28523, 0, 0] }) =
      some [1, 2] := by decide +kernel

theorem test_xxtea_decb_corrupted :     -- V-X13
    fieldOf (fun t => (t.dbuf, t.outlen, statusWord t))
      (exec .xxteaDecb { idle with len := 4, dbuf := [9, 5, 0, 0], outlen := 3 }) =
      some ([0, 5, 0, 0], 0, 0x00003006) := by decide

theorem test_xxtea_decb_one_letter :     -- V-X8
    fieldOf (fun t => (t.dbuf.take 2, t.outlen))
      (exec .xxteaDecb { idle with len := 8, dbuf := [0xDEB45BF0, 0x078C6806, 0, 0] }) =
      some ([0x61, 1], 1) := by decide +kernel

theorem test_abort_keeps_skv :     -- V-K2
    fieldOf (fun t => (t.blkcnt, statusWord t)) (exec .abort { cmacOpen 3 with skv := true }) =
      some (0, 0x00000082) := by decide

theorem test_sreset_while_busy :     -- V-K3
    fieldOf (fun t => (t.cmd, statusWord t, readReg t .keycfg, t.pend))
      (step (withWrite (busyWith 0x00000001) 0 0x0000000F)) = some (0, 0, 0, none) := by decide

theorem test_write_while_busy_is_dropped :     -- V-H1
    fieldOf (fun t => (t.din.e0, statusWord t)) (step (withWrite (busyWith 0x00000001) 16 1)) =
      some (0, 0x00000009) := by decide

theorem test_key_frozen_in_a_session :     -- V-H2
    fieldOf (fun t => (t.akey, statusWord t)) (step (withWrite { cmacOpen 2 with skv := true } 8 5)) =
      some (.replicate 0, 0x000000C8) := by decide

theorem test_error_is_acknowledged :     -- V-E3, V-E4
    (∃ t, step (withWrite { idle with
        done := true, err := true, errcode := .sequence, irqen := 2 } 1 0x00000004) = .next t ∧
      statusWord t = 0x00000002 ∧ t.irq = false) := ⟨_, rfl, by decide⟩

theorem test_placed_words_run :
    fieldOf statusWord (step (State.reset.withFetchWord 32 0x00000000)) = some 0x00000002 ∧
      fieldOf statusWord (step (State.reset.withFetchWord 32 0x00000104)) = some 0x00006006 ∧
      fieldOf statusWord (step (State.reset.withFetchWord 32 0x00000009)) = some 0x00005006 ∧
      fieldOf statusWord (step (State.reset.withFetchWord 32 0x0000000F)) = some 0x00000000 := by
  decide

theorem test_block_write_expands :     -- R79, R112
    (expand 0 (.wrblk .din (blkBe 0x66E94BD4EF8A2C3B884CFA59CA342B2E))).map lineEvent =
      [some (.busWrite 16 0xD44BE966), some (.busWrite 17 0x3B2C8AEF),
        some (.busWrite 18 0x59FA4C88), some (.busWrite 19 0x2E2B34CA)] ∧
      (expand 3 .wait).map lineEvent = [some (.busRead 1), none] := by decide

theorem test_key_bytes :     -- V-X6
    xkeyOf [1, 2, 3, 4, 5] = ⟨0x04030201, 0x00000005, 0, 0⟩ ∧ xkeyOf [] = .replicate 0 := by decide

theorem test_mix_function :     -- V-X2
    mx 0x9E3779B9 0x01234567 0x89ABCDEF 1 2 keyX = 0xBEE0FF8E := by decide

/-! ### Witnesses: hypotheses of the statements are met, each clause at its boundary values -/

theorem witness_ResetLeavesTheStatedValues :
    ∃ (s : State) (es : List Event), s.events = .resetLow :: es :=
  ⟨{ busyWith 1 with events := [.resetLow] }, [], rfl⟩

/-- The block held in reset, with event `e` to come. -/
def held (e : Event) : State := { State.reset with rstN := false, events := [e] }

theorem held_inv (e : Event) : (held e).Inv := by
  constructor <;>
    simp [held, State.reset, State.sessionOpen, State.busy, Memory.wf, Config.xwLegal, Config.xw]

theorem witness_HeldInResetIgnoresAccesses :
    (∀ e, (held e).events = e :: [] ∧ (held e).rstN = false ∧ (held e).Inv) ∧
      (∃ e a v, e = Event.busWrite a v) ∧ (∃ e a, e = Event.busRead a) ∧ (∃ e, e = Event.engine) ∧
      (∃ e, e = Event.resetHigh) ∧ ∃ e, e = Event.resetLow :=
  ⟨fun e => ⟨rfl, rfl, held_inv e⟩, ⟨_, 0, sresetWord, rfl⟩, ⟨_, 1023, rfl⟩, ⟨_, rfl⟩, ⟨_, rfl⟩,
    ⟨_, rfl⟩⟩

theorem witness_SresetActsAtTheWrite :
    (∃ (s : State) (es : List Event), s.rstN = true ∧ s.busy = true ∧
      s.events = .busWrite 0 0x0000000F :: es) ∧
    ∃ (s : State) (es : List Event), s.rstN = true ∧ s.busy = false ∧
      s.events = .busWrite 0 0x0000000F :: es :=
  ⟨⟨withWrite (busyWith 1) 0 0x0000000F, [], by decide⟩,
    ⟨withWrite idle 0 0x0000000F, [], by decide⟩⟩

theorem witness_OpcodeMapWordsDecode :
    ∀ op ∈ [0x0A, 0x0D, 0x10, 0xFF], (0x0A ≤ op ∧ op ≤ 0x0D) ∨ (0x10 ≤ op ∧ op ≤ 0xFF) := by decide

/-- M set alone and the top reserved bit set alone, on the first and the last opcode without M. -/
theorem witness_onlyPlainWord :
    ((0x00000100 : Word).setWidth 8 = (0x00 : BitVec 8) ∧ (0x00000100 : Word) >>> 8 ≠ 0) ∧
    ((0x80000000 : Word).setWidth 8 = (0x00 : BitVec 8) ∧ (0x80000000 : Word) >>> 8 ≠ 0) ∧
    (0x0000010F : Word).setWidth 8 = (0x0F : BitVec 8) ∧ (0x0000010F : Word) >>> 8 ≠ 0 := by
  decide

/-- The lowest and the top reserved bit set alone, with M = 0 and with M = 1. -/
theorem witness_onlyModifierWords :
    ((0x00000203 : Word).setWidth 8 = (0x03 : BitVec 8) ∧ (0x00000203 : Word) >>> 9 ≠ 0) ∧
    ((0x00000308 : Word).setWidth 8 = (0x08 : BitVec 8) ∧ (0x00000308 : Word) >>> 9 ≠ 0) ∧
    (0x80000109 : Word).setWidth 8 = (0x09 : BitVec 8) ∧ (0x80000109 : Word) >>> 9 ≠ 0 := by
  decide

theorem witness_IllegalWordIsReportedAtCommit :
    legalWord 0x0000000A = false ∧ legalWord 0x00000101 = false ∧ legalWord 0x00000200 = false ∧
    (∃ (s : State) (es : List Event), s.rstN = true ∧ s.busy = false ∧
      s.events = .busWrite 0 0x0000000A :: es) ∧
    (∃ (s : State) (es : List Event), s.rstN = true ∧ s.busy = true ∧
      s.events = .busWrite 0 0x0000000A :: es) ∧
    ∃ s : State, s.rstN = true ∧ s.pend = some 0x0000000A ∧ s.nextEvent = .engine :=
  ⟨by decide, by decide, by decide, ⟨withWrite idle 0 0x0A, [], by decide⟩,
    ⟨withWrite (busyWith 1) 0 0x0A, [], by decide⟩, ⟨busyWith 0x0A, by decide⟩⟩

theorem witness_StepRunsTheDecodedCommand :
    (∃ s : State, s.rstN = true ∧ s.nextEvent = .engine ∧ s.pend = some 1 ∧
      decode 1 = .ok .aesEnc) ∧
    (∃ s : State, s.rstN = true ∧ s.nextEvent = .engine ∧ s.pend = none) ∧
    ∃ (s : State) (es : List Event), s.rstN = true ∧ s.events = .busWrite 0 sresetWord :: es :=
  ⟨⟨busyWith 1, by decide⟩, ⟨idle, by decide⟩, ⟨withWrite idle 0 sresetWord, [], by decide⟩⟩

theorem witness_AcceptanceOfACommand :
    (∃ (s : State) (w : Word) (es : List Event), s.rstN = true ∧ w ≠ sresetWord ∧
      s.events = .busWrite 0 w :: es ∧ s.busy = false) ∧
    ∃ (s : State) (w : Word) (es : List Event), s.rstN = true ∧ w ≠ sresetWord ∧
      s.events = .busWrite 0 w :: es ∧ s.busy = true :=
  ⟨⟨withWrite idle 0 0, 0, [], by decide⟩, ⟨withWrite (busyWith 1) 0 14, 14, [], by decide⟩⟩

theorem witness_PendingCommandEventuallyEnds :
    (∃ s : State, s.rstN = true ∧ s.busy = true ∧ s.events = []) ∧
    ∃ s : State, s.rstN = true ∧ s.busy = true ∧ s.events ≠ [] :=
  ⟨⟨busyWith 1, by decide⟩, ⟨withWrite (busyWith 1) 0 2, by decide⟩⟩

theorem witness_HostReadHasNoSideEffect :
    ∃ (s : State) (es : List Event), s.events = .busRead 1 :: es ∧ s.rstN = true :=
  ⟨{ idle with events := [.busRead 1] }, [], by decide⟩

/-- The first and the last offset of each row of 10_state.md R23, with XW = 4; a state for the read and
one for the write with a read after it. -/
theorem witness_HostReadReturnsTheRegister :
    (∃ (s : State) (es : List Event), s.rstN = true ∧ s.xw = 4 ∧ s.events = .busRead 67 :: es) ∧
    (∃ (s : State) (es : List Event), s.rstN = true ∧ s.busy = false ∧ (0 : Word) ≠ sresetWord ∧
      s.events = .busWrite 0 0 :: .busRead 0 :: es) ∧
    (∃ (s : State) (es : List Event), s.rstN = true ∧ s.busy = false ∧ s.xw = 4 ∧
      s.events = .busWrite 67 5 :: .busRead 66 :: es) ∧
    [0, 1, 2, 3, 4, 5, 6, 7].map offsetOf =
      [0x000, 0x004, 0x008, 0x00C, 0x010, 0x014, 0x018, 0x01C] ∧
    [8, 15, 16, 19, 20, 23, 24, 27, 28, 31].map offsetOf =
      [0x020, 0x03C, 0x040, 0x040 + 4 * 3, 0x050, 0x050 + 4 * 3, 0x060, 0x060 + 4 * 3, 0x070,
        0x070 + 4 * 3] ∧
    [32, 33, 34, 63, 64, 67, 68, 1023].map offsetOf =
      [0x080, 0x080 + 4 * 1, 0x088, 0x0FC, 0x100, 0x100 + 4 * 3, 0x100 + 4 * 4, 0xFFC] :=
  ⟨⟨{ idle with events := [.busRead 67] }, [], by decide⟩,
    ⟨{ idle with events := [.busWrite 0 0, .busRead 0] }, [], by decide⟩,
    ⟨{ idle with events := [.busWrite 67 5, .busRead 66] }, [], by decide⟩,
    by decide, by decide, by decide⟩

/-- The boundary offsets of each range of 20_memory.md R74, with XW = 4. -/
theorem witness_ReservedReadOnlyAndWriteOnlyOffsets :
    (∀ a ∈ ([0x088 / 4, 0x0FC / 4, 0x110 / 4, 0xFFC / 4] : List Nat),
      let off := offsetOf (BitVec.ofNat 10 a)
      (0x088 ≤ off ∧ off ≤ 0x0FC) ∨ 0x100 + 4 * idle.xw ≤ off) ∧
    (∀ a ∈ ([0x020 / 4, 0x03C / 4] : List Nat),
      let off := offsetOf (BitVec.ofNat 10 a)
      0x020 ≤ off ∧ off ≤ 0x03C) ∧
    (∀ a ∈ ([0x014 / 4, 0x01C / 4, 0x050 / 4, 0x084 / 4] : List Nat),
      let off := offsetOf (BitVec.ofNat 10 a)
      (0x014 ≤ off ∧ off ≤ 0x01C) ∨ (0x050 ≤ off ∧ off ≤ 0x084)) ∧
    ∃ es, (withWrite idle 5 1).events = .busWrite 5 1 :: es :=
  ⟨by decide, by decide, by decide, [], rfl⟩

theorem witness_RegisterMapOffsets :
    Config.xwLegal 2 = true ∧ Config.xwLegal 960 = true ∧ offsetOfReg .cmd = some 0x000 ∧
      offsetOfReg (.mact 1) = some 0x084 ∧ offsetOfReg (.dbuf 959) = some 0xFFC ∧
      ∀ i, Reg.dbuf 959 = .dbuf i → i < 960 := by
  refine ⟨by decide, by decide, rfl, rfl, rfl, ?_⟩
  intro i h
  cases h
  decide

/-- Every register of 20_memory.md R76 at an address, with the write dropped and with it taking
effect; the last DBUF word is at its boundary. -/
theorem witness_HostWriteDropsOrTakesEffect :
    (idle.rstN = true ∧ ∃ es, (withWrite idle 0 1).events = .busWrite 0 1 :: es) ∧
    (idle.regOf 0 = .cmd ∧ idle.regOf 1 = .status ∧ idle.regOf 2 = .irqen ∧
      idle.regOf 3 = .keycfg ∧ idle.regOf 4 = .len ∧ idle.regOf 8 = .akey 0 ∧
      idle.regOf 15 = .xkey 3 ∧ idle.regOf 16 = .din 0 ∧ idle.regOf 64 = .dbuf 0 ∧
      idle.regOf 67 = .dbuf 3) ∧
    (∃ v : Word, v = sresetWord) ∧ (∃ v : Word, v ≠ sresetWord) ∧
    (¬idle.busy = true ∧ (busyWith 1).busy = true) ∧
    (cbcOpen .encrypt 1).cbcAct = true ∧ (cmacOpen 1).cmacAct = true ∧
    ¬(idle.busy = true ∨ idle.cbcAct = true ∨ idle.cmacAct = true) :=
  ⟨⟨rfl, [], rfl⟩, by decide, ⟨_, rfl⟩, ⟨0, by decide⟩, by decide, rfl, rfl, by decide⟩

theorem witness_StatusReadAndWriteOneToClear :
    ∃ (s : State) (es : List Event), s.rstN = true ∧ s.events = .busWrite 1 0xE :: es :=
  ⟨withWrite (busyWith 1) 1 0xE, [], by decide⟩

theorem witness_InterruptEnableWrite :
    ∃ (s : State) (es : List Event), s.rstN = true ∧ s.events = .busWrite 2 0xFFFFFFFF :: es :=
  ⟨withWrite idle 2 0xFFFFFFFF, [], by decide⟩

theorem witness_KeyConfigurationWrite :
    ∃ (s : State) (es : List Event), s.rstN = true ∧ s.busy = false ∧ s.cbcAct = false ∧
      s.cmacAct = false ∧ s.events = .busWrite 3 0xFFFFFFFF :: es :=
  ⟨withWrite idle 3 0xFFFFFFFF, [], by decide⟩

theorem witness_CapsReadsTheCapacity :
    Memory.wf idle.dbuf = true ∧ ∃ es, (withWrite idle 7 9).events = .busWrite 7 9 :: es :=
  ⟨by decide, [], rfl⟩

theorem witness_KeysCannotBeRead :
    ∃ (s : State) (es : List Event), s.events = .busRead 8 :: es :=
  ⟨{ idle with events := [.busRead 8] }, [], rfl⟩

theorem witness_LaneMappingOfBlocks : 0 < 16 ∧ 15 < 16 := by decide

theorem witness_SboxTableIsAlgebraic : (1 : Byte) ≠ 0 ∧ (0xFF : Byte) ≠ 0 := by decide

theorem witness_KeyExpansionRecurrence :
    0 ≤ 10 ∧ 10 ≤ 10 ∧ 0 < 4 ∧ 3 < 4 ∧ (4 ≤ 4 ∧ 4 < 44 ∧ 4 % 4 = 0) ∧
      (4 ≤ 43 ∧ 43 < 44 ∧ 43 % 4 ≠ 0) := by decide

/-- For AesEncResult and AesDecResult. -/
theorem witness_AesResults : idle.aklen = 16 ∧ State.reset.aklen ≠ 16 := by decide

theorem witness_AesCommandsRoundTrip : idle.aklen = 16 := by decide

/-- One state for each clause of CBC_START: a session open, a wrong key length, LEN = 0, LEN = 24, and
the smallest and largest legal LEN. -/
theorem witness_CbcStartOpensASession :
    ((cbcOpen .encrypt 1).cbcAct = true ∧ (cmacOpen 1).cmacAct = true) ∧
    (idle.cbcAct = false ∧ idle.cmacAct = false ∧ State.reset.cbcAct = false ∧
      State.reset.cmacAct = false ∧ State.reset.aklen ≠ 16 ∧ idle.aklen = 16) ∧
    idle.len = 0 ∧ (0x18 : Word).toNat % 16 ≠ 0 ∧
    ((0x10 : Word) ≠ 0 ∧ (0x10 : Word).toNat % 16 = 0) ∧
    (0xFFFFFFF0 : Word) ≠ 0 ∧ (0xFFFFFFF0 : Word).toNat % 16 = 0 := by decide

/-- For CbcBlockEncrypts and CbcBlockDecrypts: no session, the last block, an earlier block. -/
theorem witness_CbcBlockResults :
    idle.cbcAct = false ∧
    ((cbcOpen .encrypt 1).cbcAct = true ∧ (cbcOpen .encrypt 1).cbcDir = .encrypt ∧
      (cbcOpen .encrypt 1).blkcnt = 1 ∧ (cbcOpen .encrypt 2).blkcnt ≠ 1) ∧
    (cbcOpen .decrypt 1).cbcAct = true ∧ (cbcOpen .decrypt 1).cbcDir = .decrypt ∧
      (cbcOpen .decrypt 1).blkcnt = 1 ∧ (cbcOpen .decrypt 0x0FFFFFFF).blkcnt ≠ 1 := by decide

theorem witness_CbcSessionComputesTheFunction :
    ∃ (s : State) (ps : List Block), s.cbcAct = false ∧ s.cmacAct = false ∧ s.aklen = 16 ∧
      ps ≠ [] ∧ s.len.toNat = 16 * ps.length :=
  ⟨{ idle with len := 32 }, [zeroBlock, blockOfFile blockM], by decide⟩

theorem witness_DoublingBytewise : 0 < 15 ∧ 14 < 15 := by decide

theorem witness_CmacSubkeysResult : State.reset.aklen ≠ 16 ∧ idle.aklen = 16 := by decide

theorem witness_CmacStartOpensASession :
    ((cbcOpen .encrypt 1).cbcAct = true ∧ (cmacOpen 1).cmacAct = true) ∧
    (State.reset.cbcAct = false ∧ State.reset.cmacAct = false ∧ State.reset.aklen ≠ 16) ∧
    idle.cbcAct = false ∧ idle.cmacAct = false ∧ idle.aklen = 16 := by decide

theorem witness_CmacBlockAbsorbs :
    idle.cmacAct = false ∧ (cmacOpen 2).cmacAct = true ∧ 1 < (cmacOpen 2).blkcnt.toNat ∧
      1 < (cmacOpen 0x10000000).blkcnt.toNat := by decide

theorem witness_CmacBlockFinishes :
    idle.cmacAct = false ∧ (cmacOpen 1).cmacAct = true ∧ (cmacOpen 1).blkcnt = 1 ∧
      (cmacOpen 1).cmacCmpl = false ∧ (0 < 8 ∧ 7 < 8) := by decide

theorem witness_PaddingOfAPartialBlock :
    0 ≤ 15 ∧ 15 ≤ 15 ∧ ∃ b b' : Block, b ≠ b' ∧ ∀ j, j < 15 → byteOf b' j = byteOf b j :=
  ⟨by decide, by decide, zeroBlock, blkBe 1, by decide, by decide⟩

/-- The empty message, a complete block, and one byte more. -/
theorem witness_CmacSessionComputesTheCmac :
    (idle.cbcAct = false ∧ idle.cmacAct = false ∧ idle.aklen = 16) ∧
    ∀ l ∈ [0, 16, 17], ∃ (s : State) (m : List Byte) (bs : List Block),
      s.len.toNat = l ∧ s.len.toNat = m.length ∧ bs.length = cmacBlocks m.length ∧
        ∀ i, i < bs.length → carries m i (bs.getD i zeroBlock) := by
  refine ⟨by decide, ?_⟩
  intro l hl
  refine ⟨{ idle with len := BitVec.ofNat 32 l }, List.replicate l 0,
    List.replicate (cmacBlocks l) zeroBlock, ?_⟩
  unfold carries
  revert l
  decide

theorem witness_RoundCounts : 9 ≤ 9 ∧ 9 ≤ 53 := by decide

theorem witness_XxteaWordsRoundTrip :
    (2 ≤ 2 ∧ 1 ≤ 1 ∧ 1 ≤ rounds 2) ∧ (1 ≤ 32 ∧ 32 ≤ rounds 2) ∧ (1 ≤ 6 ∧ 6 ≤ rounds 960) ∧ 1 ≤ 1 := by
  decide

theorem witness_XxteaBytesRoundTrip :
    ([] : List Byte).length < 2 ^ 32 ∧ ([0x61, 0x62] : List Byte).length < 2 ^ 32 := by decide

/-- For XxteaEncwResult and XxteaDecwResult: LEN = 0, LEN = 1, LEN = XW and LEN = XW + 1, with
XW = 4. -/
theorem witness_XxteaWordResults :
    State.reset.xkv = false ∧ idle.xkv = true ∧ idle.xw < (5 : Word).toNat ∧
      (4 : Word).toNat ≤ idle.xw ∧ (1 : Word).toNat ≤ 1 ∧ (0 : Word).toNat ≤ 1 := by decide

/-- LEN = 0; the largest legal LEN, 12, and 13, with XW = 4. -/
theorem witness_XxteaEncbResult :
    State.reset.xkv = false ∧ idle.xkv = true ∧ idle.len.toNat = 0 ∧
      ((12 : Word).toNat ≠ 0 ∧ ((12 : Word).toNat + 3) / 4 + 1 ≤ idle.xw) ∧
      (13 : Word).toNat ≠ 0 ∧ idle.xw < ((13 : Word).toNat + 3) / 4 + 1 := by decide

/-- LEN = 0; the largest legal LEN, 16, and 17, with XW = 4; and stored lengths at the bound and one
past it, on one word, which the transform leaves as it is. -/
theorem witness_XxteaDecbResult :
    State.reset.xkv = false ∧ idle.xkv = true ∧ idle.len.toNat = 0 ∧
      ((16 : Word).toNat ≠ 0 ∧ ((16 : Word).toNat + 3) / 4 ≤ idle.xw) ∧
      ((17 : Word).toNat ≠ 0 ∧ idle.xw < ((17 : Word).toNat + 3) / 4) ∧
      ((xxteaDecryptWords (toWords ((bytesOfWords [4, 0, 0, 0]).take 4) false) keyX).getD 0 0).toNat
        ≤ 4 * 1 ∧
      4 * 1 <
        ((xxteaDecryptWords (toWords ((bytesOfWords [5, 0, 0, 0]).take 4) false) keyX).getD 0 0).toNat
      := by decide

theorem witness_XxteaCommandsRoundTrip :
    ∃ (s : State) (kb d : List Byte), Memory.wf s.dbuf = true ∧ s.xkv = true ∧ s.xkey = xkeyOf kb ∧
      1 ≤ d.length ∧ d.length ≤ 4 * (s.xw - 1) ∧ s.len.toNat = d.length ∧
      (bytesOfWords s.dbuf).take d.length = d :=
  ⟨{ idle with len := 5, dbuf := [0x64636261, 0xEEEEEE65, 0, 0], xkey := ⟨0x00000201, 0, 0, 0⟩ },
    [1, 2], [0x61, 0x62, 0x63, 0x64, 0x65], by decide⟩

theorem witness_ErrorPriority : Instr.xxteaDecb ≠ .sreset ∧ Instr.nop ≠ .sreset := by decide

/-- An error that changes only the report, and the one that changes the buffer too. -/
theorem witness_ErrorChangesOnlyTheReport :
    (∃ t, exec .aesEnc State.reset = .next t ∧ t.errcode ≠ .ok) ∧
    ∃ t, exec .xxteaDecb { idle with len := 4, dbuf := [9, 5, 0, 0] } = .next t ∧
      t.errcode = .corruptedCiphertext :=
  ⟨⟨_, rfl, by decide⟩, ⟨_, rfl, by decide⟩⟩

theorem witness_StepKeepsTheInvariant :
    ∃ s t : State, s.Inv ∧ s.busy = false ∧ step s = .next t :=
  ⟨held (.busWrite 0 1), _, held_inv _, rfl, rfl⟩

theorem witness_SessionFreezesTheAesKey :
    ∃ t : State, step (withWrite (cbcOpen .encrypt 2) 8 5) = .next t ∧
      (cbcOpen .encrypt 2).cbcAct = true ∧ t.cbcAct = true :=
  ⟨_, rfl, by decide⟩

theorem witness_OperandsAreStableWhileBusy :
    ∃ t : State, step (withWrite (busyWith 1) 2 7) = .next t ∧
      (withWrite (busyWith 1) 2 7).rstN = true ∧ (withWrite (busyWith 1) 2 7).busy = true ∧
      t.busy = true :=
  ⟨_, rfl, by decide⟩

theorem witness_CommandsNeverWriteTheirOperands :
    ∃ t : State, Instr.abort ≠ .sreset ∧ exec .abort idle = .next t :=
  ⟨_, by decide, rfl⟩

/-- Two states that differ in the other subsystem only. -/
theorem witness_SubsystemsAreIndependent :
    (∃ t t' : State, exec .aesEnc idle = .next t ∧
      exec .aesEnc { idle with dbuf := [1, 2], xkv := false } = .next t' ∧
      idle.aesPart = ({ idle with dbuf := [1, 2], xkv := false } : State).aesPart ∧
      aesCommand .aesEnc = true) ∧
    ∃ t t' : State, exec .xxteaEncw idle = .next t ∧
      exec .xxteaEncw { idle with aklen := 0, tagv := true } = .next t' ∧
      idle.xxteaPart = ({ idle with aklen := 0, tagv := true } : State).xxteaPart ∧
      xxteaCommand .xxteaEncw = true :=
  ⟨⟨_, _, rfl, rfl, by decide⟩, ⟨_, _, rfl, rfl, by decide⟩⟩

end Sys2Proof.Tests
end

section
/-!
PROOFS. The AES and the XXTEA subsystem do not touch or see each other (00_scope.md R4). What each
named update does to the two parts of the state is said once; a command leaves the other part alone
because its updates do, and two runs of it agree because its operands, checks and updates are
functions of its own part and LEN.
-/

namespace Sys2Proof.Machine

open Sys2Proof

/-! ### The updates on the XXTEA part -/

@[simp] theorem State.commit_xxteaPart (c : ErrCode) (s : State) :
    (s.commit c).xxteaPart = s.xxteaPart := rfl
@[simp] theorem State.putOutput_xxteaPart (b : Block) (s : State) :
    (s.putOutput b).xxteaPart = s.xxteaPart := rfl
@[simp] theorem State.openCbc_xxteaPart (d : Direction) (s : State) :
    (s.openCbc d).xxteaPart = s.xxteaPart := rfl
@[simp] theorem State.cbcAdvance_xxteaPart (o c : Block) (s : State) :
    (s.cbcAdvance o c).xxteaPart = s.xxteaPart := rfl
@[simp] theorem State.putSubkeys_xxteaPart (s : State) :
    s.putSubkeys.xxteaPart = s.xxteaPart := rfl
@[simp] theorem State.openCmac_xxteaPart (s : State) : s.openCmac.xxteaPart = s.xxteaPart := rfl
@[simp] theorem State.cmacAbsorb_xxteaPart (s : State) :
    s.cmacAbsorb.xxteaPart = s.xxteaPart := rfl
@[simp] theorem State.cmacFinish_xxteaPart (s : State) :
    s.cmacFinish.xxteaPart = s.xxteaPart := rfl
@[simp] theorem State.putBuffer_xxteaPart (v : List Word) (n : Nat) (s : State) :
    (s.putBuffer v n).xxteaPart =
      { s.xxteaPart with dbuf := v ++ s.dbuf.drop v.length, outlen := BitVec.ofNat 32 n } := rfl

/-! ### The updates on the AES part -/

@[simp] theorem State.commit_aesPart (c : ErrCode) (s : State) :
    (s.commit c).aesPart = s.aesPart := rfl
@[simp] theorem State.putBuffer_aesPart (v : List Word) (n : Nat) (s : State) :
    (s.putBuffer v n).aesPart = s.aesPart := rfl
@[simp] theorem State.putOutput_aesPart (b : Block) (s : State) :
    (s.putOutput b).aesPart =
      { s.aesPart with valid := (s.skv, false), dout := fileOfBlock b } := rfl
@[simp] theorem State.openCbc_aesPart (d : Direction) (s : State) :
    (s.openCbc d).aesPart =
      { s.aesPart with
        session := (true, d, s.cmacAct), blkcnt := s.len / 16,
        hidden := (zeroBlock, s.cmacCmpl, s.cmacR) } := rfl
@[simp] theorem State.cbcAdvance_aesPart (o c : Block) (s : State) :
    (s.cbcAdvance o c).aesPart =
      { s.aesPart with
        session := (if s.blkcnt - 1 = 0 then false else s.cbcAct,
          if s.blkcnt - 1 = 0 then .encrypt else s.cbcDir, s.cmacAct)
        valid := (s.skv, false), blkcnt := s.blkcnt - 1, dout := fileOfBlock o,
        hidden := (c, s.cmacCmpl, s.cmacR) } := rfl
@[simp] theorem State.putSubkeys_aesPart (s : State) :
    s.putSubkeys.aesPart =
      { s.aesPart with
        valid := (true, s.tagv)
        subkeys := (fileOfBlock (subkey1 s.aesKey), fileOfBlock (subkey2 s.aesKey)) } := rfl
@[simp] theorem State.openCmac_aesPart (s : State) :
    s.openCmac.aesPart =
      { s.aesPart with
        session := (s.cbcAct, s.cbcDir, true), valid := (true, false)
        blkcnt := BitVec.ofNat 32 (cmacBlocks s.lenNat)
        subkeys := (fileOfBlock (subkey1 s.aesKey), fileOfBlock (subkey2 s.aesKey))
        hidden :=
          (zeroBlock, cmacComplete s.lenNat, BitVec.ofNat 4 (s.lenNat % 16)) } := rfl
@[simp] theorem State.cmacAbsorb_aesPart (s : State) :
    s.cmacAbsorb.aesPart =
      { s.aesPart with
        blkcnt := s.blkcnt - 1
        hidden :=
          (aesEncrypt s.aesKey (xorBlock s.cv s.dinBlock), s.cmacCmpl, s.cmacR) } := rfl
@[simp] theorem State.cmacFinish_aesPart (s : State) :
    s.cmacFinish.aesPart =
      { s.aesPart with
        session := (s.cbcAct, s.cbcDir, false), valid := (s.skv, true), blkcnt := 0
        dout := fileOfBlock s.cmacTag, mact := mactOf s.cmacTag
        hidden := (zeroBlock, s.cmacCmpl, s.cmacR) } := rfl

/-! ### A command leaves the other subsystem's part unchanged -/

theorem exec_aesCommand_xxteaPart {i : Instr} {s t : State} (hi : aesCommand i = true)
    (h : exec i s = .next t) : t.xxteaPart = s.xxteaPart := by
  cases i with
  | aesEnc => obtain ⟨-, rfl⟩ | ⟨-, rfl⟩ := execAesEnc_cases s t h <;> simp
  | aesDec => obtain ⟨-, rfl⟩ | ⟨-, rfl⟩ := execAesDec_cases s t h <;> simp
  | cbcStart d =>
    obtain ⟨-, rfl⟩ | ⟨-, -, rfl⟩ | ⟨-, -, -, rfl⟩ | ⟨-, -, -, rfl⟩ :=
      execCbcStart_cases d s t h <;> simp
  | cbcBlock =>
    obtain ⟨-, rfl⟩ | ⟨-, -, rfl⟩ | ⟨-, -, rfl⟩ := execCbcBlock_cases s t h <;> simp
  | cmacSubkeys => obtain ⟨-, rfl⟩ | ⟨-, rfl⟩ := execCmacSubkeys_cases s t h <;> simp
  | cmacStart =>
    obtain ⟨-, rfl⟩ | ⟨-, -, rfl⟩ | ⟨-, -, rfl⟩ := execCmacStart_cases s t h <;> simp
  | cmacBlock =>
    obtain ⟨-, rfl⟩ | ⟨-, -, rfl⟩ | ⟨-, -, rfl⟩ := execCmacBlock_cases s t h <;> simp
  | nop | xxteaEncw | xxteaEncb | xxteaDecw | xxteaDecb | abort | sreset => nomatch hi

theorem exec_xxteaCommand_aesPart {i : Instr} {s t : State} (hi : xxteaCommand i = true)
    (h : exec i s = .next t) : t.aesPart = s.aesPart := by
  cases i with
  | xxteaEncw =>
    obtain ⟨-, rfl⟩ | ⟨-, -, rfl⟩ | ⟨-, -, rfl⟩ := execXxteaEncw_cases s t h <;> simp
  | xxteaEncb =>
    obtain ⟨-, rfl⟩ | ⟨-, -, rfl⟩ | ⟨-, -, -, rfl⟩ | ⟨-, -, -, rfl⟩ :=
      execXxteaEncb_cases s t h <;> simp
  | xxteaDecw =>
    obtain ⟨-, rfl⟩ | ⟨-, -, rfl⟩ | ⟨-, -, rfl⟩ := execXxteaDecw_cases s t h <;> simp
  | xxteaDecb =>
    obtain ⟨-, rfl⟩ | ⟨-, -, rfl⟩ | ⟨-, -, -, rfl⟩ | ⟨-, -, -, -, -, rfl⟩ |
        ⟨-, -, -, -, -, rfl⟩ :=
      execXxteaDecb_cases s t h <;> simp
  | nop | aesEnc | aesDec | cbcStart | cbcBlock | cmacSubkeys | cmacStart | cmacBlock | abort
  | sreset => nomatch hi

/-- Two outcomes whose next states, if both have one, agree on a part and on the error code. -/
def SameResult {α : Type} (part : State → α) (o o' : Host.Outcome State Fault Refusal) : Prop :=
  ∀ t t', o = .next t → o' = .next t' → part t = part t' ∧ t.errcode = t'.errcode

/-! ### Two states an AES command cannot tell apart -/

/-- Two states that agree on the AES part and on LEN, which no command writes. -/
structure AesAgree (s s' : State) : Prop where
  part : s.aesPart = s'.aesPart
  len : s.len = s'.len

namespace AesAgree

variable {s s' : State} (h : AesAgree s s')
include h

theorem cbcAct : s.cbcAct = s'.cbcAct := congrArg (·.session.1) h.part
theorem cbcDir : s.cbcDir = s'.cbcDir := congrArg (·.session.2.1) h.part
theorem cmacAct : s.cmacAct = s'.cmacAct := congrArg (·.session.2.2) h.part
theorem skv : s.skv = s'.skv := congrArg (·.valid.1) h.part
theorem tagv : s.tagv = s'.tagv := congrArg (·.valid.2) h.part
theorem aklen : s.aklen = s'.aklen := congrArg (·.key.1) h.part
theorem akey : s.akey = s'.akey := congrArg (·.key.2) h.part
theorem blkcnt : s.blkcnt = s'.blkcnt := congrArg (·.blkcnt) h.part
theorem din : s.din = s'.din := congrArg (·.din) h.part
theorem k1r : s.k1r = s'.k1r := congrArg (·.subkeys.1) h.part
theorem k2r : s.k2r = s'.k2r := congrArg (·.subkeys.2) h.part
theorem cv : s.cv = s'.cv := congrArg (·.hidden.1) h.part
theorem cmacCmpl : s.cmacCmpl = s'.cmacCmpl := congrArg (·.hidden.2.1) h.part
theorem cmacR : s.cmacR = s'.cmacR := congrArg (·.hidden.2.2) h.part

/-! The operands and checks of 30_encoding.md R102 and 60_exceptions.md R310. -/

theorem lenNat : s.lenNat = s'.lenNat := congrArg BitVec.toNat h.len
theorem aesKey : s.aesKey = s'.aesKey := congrArg blockOfFile h.akey
theorem dinBlock : s.dinBlock = s'.dinBlock := congrArg blockOfFile h.din
theorem sessionOpen : s.sessionOpen = s'.sessionOpen := by
  rw [s.sessionOpen_eq, s'.sessionOpen_eq, h.cbcAct, h.cmacAct]
theorem keyLengthOk : s.keyLengthOk = s'.keyLengthOk := congrArg (· == 16) h.aklen
theorem blockSizeOk : s.blockSizeOk = s'.blockSizeOk :=
  congrArg (fun n => n != 0 && n % 16 == 0) h.lenNat
theorem cmacTag : s.cmacTag = s'.cmacTag := by
  rw [State.cmacTag, State.cmacTag, h.aesKey, h.dinBlock, h.k1r, h.k2r, h.cmacCmpl, h.cmacR, h.cv]

/-! The updates: each keeps the agreement, and the commit ends in the same result. -/

theorem sameResult_commit (c : ErrCode) :
    SameResult State.aesPart (.next (s.commit c)) (.next (s'.commit c)) := by
  rintro _ _ ⟨⟩ ⟨⟩
  exact ⟨h.part, rfl⟩
theorem putOutput (b : Block) : AesAgree (s.putOutput b) (s'.putOutput b) :=
  ⟨by simp only [State.putOutput_aesPart, h.part, h.skv], h.len⟩
theorem openCbc (d : Direction) : AesAgree (s.openCbc d) (s'.openCbc d) :=
  ⟨by simp only [State.openCbc_aesPart, h.part, h.len, h.cmacAct, h.cmacCmpl, h.cmacR], h.len⟩
theorem cbcAdvance (o c : Block) : AesAgree (s.cbcAdvance o c) (s'.cbcAdvance o c) :=
  ⟨by simp only [State.cbcAdvance_aesPart, h.part, h.blkcnt, h.cbcAct, h.cbcDir, h.cmacAct, h.skv,
    h.cmacCmpl, h.cmacR], h.len⟩
theorem putSubkeys : AesAgree s.putSubkeys s'.putSubkeys :=
  ⟨by simp only [State.putSubkeys_aesPart, h.part, h.tagv, h.aesKey], h.len⟩
theorem openCmac : AesAgree s.openCmac s'.openCmac :=
  ⟨by simp only [State.openCmac_aesPart, h.part, h.cbcAct, h.cbcDir, h.lenNat, h.aesKey], h.len⟩
theorem cmacAbsorb : AesAgree s.cmacAbsorb s'.cmacAbsorb :=
  ⟨by simp only [State.cmacAbsorb_aesPart, h.part, h.blkcnt, h.aesKey, h.cv, h.dinBlock,
    h.cmacCmpl, h.cmacR], h.len⟩
theorem cmacFinish : AesAgree s.cmacFinish s'.cmacFinish :=
  ⟨by simp only [State.cmacFinish_aesPart, h.part, h.cbcAct, h.cbcDir, h.skv, h.cmacTag,
    h.cmacCmpl, h.cmacR], h.len⟩
theorem cbcEncryptBlock : AesAgree s.cbcEncryptBlock s'.cbcEncryptBlock := by
  rw [s.cbcEncryptBlock_eq, s'.cbcEncryptBlock_eq, h.aesKey, h.cv, h.dinBlock]
  exact h.cbcAdvance _ _
theorem cbcDecryptBlock : AesAgree s.cbcDecryptBlock s'.cbcDecryptBlock := by
  rw [s.cbcDecryptBlock_eq, s'.cbcDecryptBlock_eq, h.aesKey, h.cv, h.dinBlock]
  exact h.cbcAdvance _ _

/-! The commands: the checks take the same branch in both runs. -/

theorem sameResult_execAesEnc :
    SameResult State.aesPart (execAesEnc s) (execAesEnc s') := by
  simp only [execAesEnc, h.keyLengthOk, h.aesKey, h.dinBlock]
  split_ifs
  · exact h.sameResult_commit _
  · exact (h.putOutput _).sameResult_commit _

theorem sameResult_execAesDec :
    SameResult State.aesPart (execAesDec s) (execAesDec s') := by
  simp only [execAesDec, h.keyLengthOk, h.aesKey, h.dinBlock]
  split_ifs
  · exact h.sameResult_commit _
  · exact (h.putOutput _).sameResult_commit _

theorem sameResult_execCbcStart (d : Direction) :
    SameResult State.aesPart (execCbcStart d s) (execCbcStart d s') := by
  simp only [execCbcStart, h.sessionOpen, h.keyLengthOk, h.blockSizeOk]
  split_ifs
  · exact h.sameResult_commit _
  · exact h.sameResult_commit _
  · exact h.sameResult_commit _
  · exact (h.openCbc d).sameResult_commit _

theorem sameResult_execCbcBlock :
    SameResult State.aesPart (execCbcBlock s) (execCbcBlock s') := by
  simp only [execCbcBlock, h.cbcAct, h.cbcDir]
  split_ifs
  · exact h.sameResult_commit _
  · cases s'.cbcDir with
    | encrypt => exact h.cbcEncryptBlock.sameResult_commit _
    | decrypt => exact h.cbcDecryptBlock.sameResult_commit _

theorem sameResult_execCmacSubkeys :
    SameResult State.aesPart (execCmacSubkeys s) (execCmacSubkeys s') := by
  simp only [execCmacSubkeys, h.keyLengthOk]
  split_ifs
  · exact h.sameResult_commit _
  · exact h.putSubkeys.sameResult_commit _

theorem sameResult_execCmacStart :
    SameResult State.aesPart (execCmacStart s) (execCmacStart s') := by
  simp only [execCmacStart, h.sessionOpen, h.keyLengthOk]
  split_ifs
  · exact h.sameResult_commit _
  · exact h.sameResult_commit _
  · exact h.openCmac.sameResult_commit _

theorem sameResult_execCmacBlock :
    SameResult State.aesPart (execCmacBlock s) (execCmacBlock s') := by
  simp only [execCmacBlock, h.cmacAct, h.blkcnt]
  split_ifs
  · exact h.sameResult_commit _
  · exact h.cmacAbsorb.sameResult_commit _
  · exact h.cmacFinish.sameResult_commit _

theorem sameResult_exec_of_aesCommand {i : Instr} (hi : aesCommand i = true) :
    SameResult State.aesPart (exec i s) (exec i s') := by
  cases i with
  | aesEnc => exact h.sameResult_execAesEnc
  | aesDec => exact h.sameResult_execAesDec
  | cbcStart d => exact h.sameResult_execCbcStart d
  | cbcBlock => exact h.sameResult_execCbcBlock
  | cmacSubkeys => exact h.sameResult_execCmacSubkeys
  | cmacStart => exact h.sameResult_execCmacStart
  | cmacBlock => exact h.sameResult_execCmacBlock
  | nop | xxteaEncw | xxteaEncb | xxteaDecw | xxteaDecb | abort | sreset => nomatch hi

end AesAgree

/-! ### Two states an XXTEA command cannot tell apart -/

/-- Two states that agree on the XXTEA part and on LEN. -/
structure XxteaAgree (s s' : State) : Prop where
  part : s.xxteaPart = s'.xxteaPart
  len : s.len = s'.len

namespace XxteaAgree

variable {s s' : State} (h : XxteaAgree s s')
include h

theorem xkv : s.xkv = s'.xkv := congrArg (·.key.1) h.part
theorem xkey : s.xkey = s'.xkey := congrArg (·.key.2) h.part
theorem dbuf : s.dbuf = s'.dbuf := congrArg (·.dbuf) h.part
theorem xw : s.xw = s'.xw := congrArg List.length h.dbuf
theorem lenNat : s.lenNat = s'.lenNat := congrArg BitVec.toNat h.len

theorem sameResult_commit (c : ErrCode) :
    SameResult State.xxteaPart (.next (s.commit c)) (.next (s'.commit c)) := by
  rintro _ _ ⟨⟩ ⟨⟩
  exact ⟨h.part, rfl⟩
theorem putBuffer (v : List Word) (n : Nat) : XxteaAgree (s.putBuffer v n) (s'.putBuffer v n) :=
  ⟨by simp only [State.putBuffer_xxteaPart, h.part, h.dbuf], h.len⟩

theorem sameResult_execXxteaEncw :
    SameResult State.xxteaPart (execXxteaEncw s) (execXxteaEncw s') := by
  simp only [execXxteaEncw, h.xkv, h.xkey, h.dbuf, h.xw, h.lenNat]
  split_ifs
  · exact h.sameResult_commit _
  · exact h.sameResult_commit _
  · exact (h.putBuffer _ _).sameResult_commit _

theorem sameResult_execXxteaEncb :
    SameResult State.xxteaPart (execXxteaEncb s) (execXxteaEncb s') := by
  simp only [execXxteaEncb, h.xkv, h.xkey, h.dbuf, h.xw, h.lenNat]
  split_ifs
  · exact h.sameResult_commit _
  · exact (h.putBuffer _ _).sameResult_commit _
  · exact h.sameResult_commit _
  · exact (h.putBuffer _ _).sameResult_commit _

theorem sameResult_execXxteaDecw :
    SameResult State.xxteaPart (execXxteaDecw s) (execXxteaDecw s') := by
  simp only [execXxteaDecw, h.xkv, h.xkey, h.dbuf, h.xw, h.lenNat]
  split_ifs
  · exact h.sameResult_commit _
  · exact h.sameResult_commit _
  · exact (h.putBuffer _ _).sameResult_commit _

theorem sameResult_execXxteaDecb :
    SameResult State.xxteaPart (execXxteaDecb s) (execXxteaDecb s') := by
  simp only [execXxteaDecb, h.xkv, h.xkey, h.dbuf, h.xw, h.lenNat]
  split_ifs
  · exact h.sameResult_commit _
  · exact (h.putBuffer _ _).sameResult_commit _
  · exact h.sameResult_commit _
  · exact (h.putBuffer _ _).sameResult_commit _
  · exact (h.putBuffer _ _).sameResult_commit _

theorem sameResult_exec_of_xxteaCommand {i : Instr} (hi : xxteaCommand i = true) :
    SameResult State.xxteaPart (exec i s) (exec i s') := by
  cases i with
  | xxteaEncw => exact h.sameResult_execXxteaEncw
  | xxteaEncb => exact h.sameResult_execXxteaEncb
  | xxteaDecw => exact h.sameResult_execXxteaDecw
  | xxteaDecb => exact h.sameResult_execXxteaDecb
  | nop | aesEnc | aesDec | cbcStart | cbcBlock | cmacSubkeys | cmacStart | cmacBlock | abort
  | sreset => nomatch hi

end XxteaAgree

/-- Settles O59: the frame of a command on the other part, and its noninterference on its own. -/
theorem subsystemsAreIndependent : Obligations.SubsystemsAreIndependent := by
  intro i s t s' t' ht ht' hlen
  constructor
  · intro hi
    exact ⟨exec_aesCommand_xxteaPart hi ht, fun hpart =>
      AesAgree.sameResult_exec_of_aesCommand ⟨hpart, hlen⟩ hi t t' ht ht'⟩
  · intro hi
    exact ⟨exec_xxteaCommand_aesPart hi ht, fun hpart =>
      XxteaAgree.sameResult_exec_of_xxteaCommand ⟨hpart, hlen⟩ hi t t' ht ht'⟩

end Sys2Proof.Machine
end

section
/-!
PROOFS. The register map and the host's accesses (10_state.md R23 to R54, 20_memory.md R71 to R76).
The map from registers to offsets and the map from offsets to registers invert each other; a read
returns the word of the selected register, and a write that takes effect is seen by a read of the
same register and by no other.
-/

namespace Sys2Proof.Machine

open Sys2Proof

/-! ### The register map (10_state.md R23, 20_memory.md R72) -/

/-- The register at the offset of a named register is that register. -/
theorem regAt_of_offsetOfReg {xw off : Nat} {r : Reg} (h : offsetOfReg r = some off)
    (hi : ∀ i, r = .dbuf i → i < xw) : regAt xw off = r := by
  cases r with
  | cmd | status | irqen | keycfg | len | outlen | blkcnt | caps => cases h; rfl
  | akey j | xkey j | din j | dout j | k1r j | k2r j | mact j => cases h; fin_cases j <;> rfl
  | dbuf i =>
    obtain rfl : 0x100 + 4 * i = off := Option.some.inj h
    have hlt : i < xw := hi i rfl
    have hword : (0x100 + 4 * i - 0x100) / 4 = i := by omega
    simp (disch := omega) only [regAt, if_neg, if_pos, hword]
  | reserved => nomatch h

/-- The offset of a register, a reserved one apart, is `off`. -/
def Reg.AtOffset (off : Nat) (r : Reg) : Prop := r ≠ .reserved → offsetOfReg r = some off

theorem Reg.AtOffset.ite {off : Nat} {c : Prop} [Decidable c] {r r' : Reg}
    (ht : c → r.AtOffset off) (he : ¬c → r'.AtOffset off) : (if c then r else r').AtOffset off :=
  iteInduction ht he

theorem val_wordIndex (off base : Nat) : (wordIndex off base).val = (off - base) / 4 % 4 := rfl

/-- The register at a word-aligned offset has that offset: one case per row of the map. -/
theorem regAt_atOffset (xw n : Nat) : (regAt xw (4 * n)).AtOffset (4 * n) := by
  unfold regAt
  repeat' refine .ite (fun _ => ?_) (fun _ => ?_)
  all_goals simp [Reg.AtOffset, offsetOfReg, val_wordIndex]
  all_goals omega

/-- The reserved offsets (20_memory.md R74). -/
theorem regAt_of_reserved {xw off : Nat}
    (h : (0x088 ≤ off ∧ off ≤ 0x0FC) ∨ 0x100 + 4 * xw ≤ off) : regAt xw off = .reserved := by
  rcases h with h | h <;> simp (disch := omega) only [regAt, if_neg, if_pos]

theorem offsetOf_injective {a b : BitVec 10} (h : offsetOf a = offsetOf b) : a = b :=
  BitVec.eq_of_toNat_eq (Nat.eq_of_mul_eq_mul_left (by decide : 0 < 4) h)

theorem exists_offsetOf (n : Nat) (h : n < 1024) : ∃ a : BitVec 10, offsetOf a = 4 * n :=
  ⟨BitVec.ofNat 10 n, by rw [offsetOf, BitVec.toNat_ofNat, Nat.mod_eq_of_lt h]⟩

/-- An address in the range of `n` words at word offset `k` is that of one of them. -/
theorem exists_wordOffset {a : BitVec 10} {k n : Nat} (hlo : 4 * k ≤ offsetOf a)
    (hhi : offsetOf a < 4 * (k + n)) : ∃ i < n, offsetOf a = 4 * k + 4 * i := by
  unfold offsetOf at *
  exact ⟨a.toNat - k, by omega, by omega⟩

theorem regOf_of_offset {s : State} {a : BitVec 10} {r : Reg}
    (h : offsetOf a ∈ offsetOfReg r) (hi : ∀ i, r = .dbuf i → i < s.xw) : s.regOf a = r :=
  regAt_of_offsetOfReg h hi

/-- Two addresses that select the same register, a reserved one apart, are equal. -/
theorem regOf_injective {s : State} {a b : BitVec 10} (ha : s.regOf a ≠ .reserved)
    (h : s.regOf b = s.regOf a) : b = a := by
  have hoa : offsetOfReg (s.regOf a) = some (offsetOf a) := regAt_atOffset s.xw a.toNat ha
  have hob : offsetOfReg (s.regOf b) = some (offsetOf b) :=
    regAt_atOffset s.xw b.toNat fun hb => ha (h.symm.trans hb)
  exact offsetOf_injective (Option.some.inj (hob.symm.trans (h ▸ hoa)))

theorem xwLegal_iff (n : Nat) : Config.xwLegal n = true ↔ 2 ≤ n ∧ n ≤ 960 := by
  simp [Config.xwLegal]

/-- Settles O13: each row of the map by computation, the DBUF rows for every legal XW. -/
theorem registerMapOffsets : Obligations.RegisterMapOffsets := by
  intro xw r off hxw hoff hi
  obtain ⟨-, hle⟩ := (xwLegal_iff xw).mp hxw
  have haligned : off ≤ 0xFFC ∧ off % 4 = 0 := by
    cases r with
    | dbuf i => have hlt : i < xw := hi i rfl; cases hoff; omega
    | reserved => nomatch hoff
    | _ => cases hoff; omega
  obtain ⟨a, ha⟩ := exists_offsetOf (off / 4) (by omega)
  exact ⟨regAt_of_offsetOfReg hoff hi, haligned.1, a, by omega⟩

/-! ### One host access (20_memory.md R71, R76) -/

/-- The state with `es` still to come and `d` on `rdata`; no register holds either of them. -/
def State.withPorts (es : List Event) (d : Option Word) (s : State) : State :=
  { s with events := es, rdata := d }

@[simp] theorem withPorts_withPorts (s : State) (es es' : List Event) (d d' : Option Word) :
    (s.withPorts es d).withPorts es' d' = s.withPorts es' d' := rfl

@[simp] theorem regOf_withPorts (s : State) (es : List Event) (d : Option Word)
    (a : BitVec 10) : (s.withPorts es d).regOf a = s.regOf a := rfl

@[simp] theorem readReg_withPorts (s : State) (es : List Event) (d : Option Word) (r : Reg) :
    readReg (s.withPorts es d) r = readReg s r := by
  cases r <;> rfl

@[simp] theorem dropped_withPorts (s : State) (es : List Event) (d : Option Word) (r : Reg) :
    dropped (s.withPorts es d) r = dropped s r := by
  cases r <;> rfl

@[simp] theorem writeReg_withPorts (s : State) (es : List Event) (d : Option Word) (v : Word)
    (r : Reg) : writeReg (s.withPorts es d) v r = (writeReg s v r).withPorts es d := by
  cases r <;> rfl

@[simp] theorem writeReg_rstN (s : State) (v : Word) (r : Reg) :
    (writeReg s v r).rstN = s.rstN := by
  cases r <;> rfl

@[simp] theorem regOf_writeReg (s : State) (v : Word) (r : Reg) (a : BitVec 10) :
    (writeReg s v r).regOf a = s.regOf a :=
  congrArg (regAt · (offsetOf a)) (writeReg_xw s v r)

/-- A read outside reset puts the selected register's word on `rdata`. -/
theorem step_busRead {s : State} {a : BitVec 10} {es : List Event} (hr : s.rstN = true)
    (he : s.events = .busRead a :: es) :
    step s = .next (s.withPorts es (some (readReg s (s.regOf a)))) := by
  rw [step_of_cons s _ es he, ← readReg_withPorts s es none]
  exact congrArg (fun d => Host.Outcome.next (s.withPorts es (some d))) (if_pos hr)

/-- A write outside reset that is neither SRESET's nor dropped takes effect. -/
theorem step_busWrite {s : State} {a : BitVec 10} {v : Word} {es : List Event}
    (hr : s.rstN = true) (he : s.events = .busWrite a v :: es)
    (hs : ¬(s.regOf a = .cmd ∧ v = sresetWord)) (hd : dropped s (s.regOf a) = false) :
    step s = .next ((writeReg s v (s.regOf a)).withPorts es none) := by
  have hw : busWrite a v (s.withPorts es none) = .next (hostWriteReg (s.withPorts es none) v _) :=
    busWrite_of_running a v (s.withPorts es none) hr hs
  rw [step_of_cons s _ es he]
  exact hw.trans (by simp [hostWriteReg, hd])

/-- A write that takes effect, and a read after it. -/
theorem runSteps_write_read {s : State} {a b : BitVec 10} {v : Word} {es : List Event}
    (hr : s.rstN = true) (he : s.events = .busWrite a v :: .busRead b :: es)
    (hs : ¬(s.regOf a = .cmd ∧ v = sresetWord)) (hd : dropped s (s.regOf a) = false) :
    runSteps 2 s = .next ((writeReg s v (s.regOf a)).withPorts es
      (some (readReg (writeReg s v (s.regOf a)) (s.regOf b)))) := by
  have hread := step_busRead (s := (writeReg s v (s.regOf a)).withPorts (.busRead b :: es) none)
    ((writeReg_rstN s v _).trans hr) rfl
  simp [runSteps, step_busWrite hr he hs hd, hread]

/-! ### Reading back what was written (10_state.md R24, R39, R45, R50) -/

theorem quad_get_set {α : Type} (q : Quad α) (i j : Fin 4) (x : α) :
    (q.set i x).get j = if j = i then x else q.get j := by
  fin_cases i <;> fin_cases j <;> rfl

/-- LEN, DIN and the words DBUF has: the operands that the host can read back. -/
def Reg.IsOperand (xw : Nat) : Reg → Prop
  | .len => True
  | .din _ => True
  | .dbuf i => i < xw
  | _ => False

theorem isOperand_of_offset {s : State} {a : BitVec 10}
    (h : offsetOf a = 0x010 ∨ (0x040 ≤ offsetOf a ∧ offsetOf a ≤ 0x04C) ∨
      (0x100 ≤ offsetOf a ∧ offsetOf a < 0x100 + 4 * s.xw)) :
    (s.regOf a).IsOperand s.xw := by
  rcases h with h | ⟨hlo, hhi⟩ | ⟨hlo, hhi⟩
  · rw [regOf_of_offset (r := .len) (congrArg some h.symm) nofun]
    trivial
  · obtain ⟨j, hj, ho⟩ := exists_wordOffset (k := 0x10) (n := 4) hlo (by omega)
    rw [regOf_of_offset (r := .din ⟨j, hj⟩) (congrArg some ho.symm) nofun]
    trivial
  · obtain ⟨i, hi, ho⟩ := exists_wordOffset (k := 0x40) (n := s.xw) hlo (by omega)
    rw [regOf_of_offset (r := .dbuf i) (congrArg some ho.symm) (by rintro _ ⟨⟩; exact hi)]
    exact hi

theorem dropped_of_isOperand {s : State} {xw : Nat} {r : Reg} (h : r.IsOperand xw) :
    dropped s r = s.busy := by
  cases r with
  | len | din _ | dbuf _ => rfl
  | _ => exact h.elim

/-- After a write of an operand register that takes effect, that register reads the value written and
every other one what it read before. -/
theorem readReg_writeReg_of_isOperand {s : State} {r : Reg} (h : r.IsOperand s.xw) (v : Word)
    (r' : Reg) : readReg (writeReg s v r) r' = if r' = r then v else readReg s r' := by
  cases r with
  | len => cases r' <;> rfl
  | din j =>
    cases r' with
    | din i => simpa [readReg, writeReg] using quad_get_set s.din j i v
    | _ => rfl
  | dbuf i =>
    cases r' with
    | dbuf j =>
      have hi : i < s.dbuf.length := h
      by_cases hj : j = i
      · simp [readReg, writeReg, hj, hi]
      · simp [readReg, writeReg, hj, Ne.symm hj]
    | caps => simp [readReg, writeReg, capsWord, State.xw]
    | _ => rfl
  | _ => exact h.elim

/-- Settles O60: the read row by row from the register map, and the read after a write from
`readReg_writeReg_of_isOperand` and the map's injectivity. -/
theorem hostReadReturnsTheRegister : Obligations.HostReadReturnsTheRegister := by
  constructor
  · intro s a es hr he
    have row : ∀ r, offsetOf a ∈ offsetOfReg r → (∀ i, r = .dbuf i → i < s.xw) →
        readReg s (s.regOf a) = readReg s r :=
      fun r h hi => congrArg (readReg s) (regOf_of_offset h hi)
    have reserved : (0x088 ≤ offsetOf a ∧ offsetOf a ≤ 0x0FC) ∨ 0x100 + 4 * s.xw ≤ offsetOf a →
        readReg s (s.regOf a) = 0 :=
      fun h => congrArg (readReg s) (regAt_of_reserved h)
    have named : ∀ r, (∀ i, r ≠ .dbuf i) → ∀ off, offsetOfReg r = some off → offsetOf a = off →
        readReg s (s.regOf a) = readReg s r :=
      fun r hn off hoff h => row r (h ▸ hoff) fun i hi => absurd hi (hn i)
    refine ⟨_, step_busRead hr he, named .cmd nofun _ rfl, named .status nofun _ rfl,
      named .irqen nofun _ rfl, named .keycfg nofun _ rfl, named .len nofun _ rfl,
      named .outlen nofun _ rfl, named .blkcnt nofun _ rfl, named .caps nofun _ rfl, ?_,
      fun j => ⟨named (.din j) nofun _ rfl, named (.dout j) nofun _ rfl,
        named (.k1r j) nofun _ rfl, named (.k2r j) nofun _ rfl⟩,
      fun j => named (.mact j) nofun _ rfl, fun h => reserved (.inl h), ?_,
      fun h => reserved (.inr h)⟩
    · rintro ⟨hlo, hhi⟩
      obtain ⟨i, hi, ho⟩ := exists_wordOffset (k := 0x8) (n := 8) hlo (by omega)
      by_cases hx : i < 4
      · exact named (.akey ⟨i, hx⟩) nofun _ rfl ho
      · exact named (.xkey ⟨i - 4, by omega⟩) nofun _ rfl (by simp only; omega)
    · intro i hi ho
      have hv := row (.dbuf i) (congrArg some ho.symm) (by rintro _ ⟨⟩; exact hi)
      refine ⟨?_, hv.symm⟩
      rw [hv]
      have hlen : i < s.dbuf.length := hi
      simp [readReg, hlen]
  · intro s a b v es hr hb he
    constructor
    · rintro ha hv rfl
      have hreg : s.regOf b = .cmd := regOf_of_offset (r := .cmd) (congrArg some ha.symm) nofun
      exact ⟨_, runSteps_write_read hr he (fun h => hv h.2) (by rw [hreg]; exact hb),
        by rw [hreg]; rfl, rfl⟩
    · intro ha
      have hop : (s.regOf a).IsOperand s.xw := isOperand_of_offset ha
      have hcmd : s.regOf a ≠ .cmd := fun h => by rw [h] at hop; exact hop
      have hres : s.regOf a ≠ .reserved := fun h => by rw [h] at hop; exact hop
      have hiff : s.regOf b = s.regOf a ↔ b = a :=
        ⟨regOf_injective hres, fun h => congrArg s.regOf h⟩
      refine ⟨_, runSteps_write_read hr he (fun h => hcmd h.1)
        ((dropped_of_isOperand hop).trans hb), rfl, ?_⟩
      simp only [readReg_writeReg_of_isOperand hop, hiff]
      rfl

/-! ### The configuration and status registers (10_state.md R35 to R38, R42) -/

theorem getLsbD_flagAt (b : Bool) (k i : Nat) (hk : k < 32) :
    (flagAt b k).getLsbD i = (decide (i = k) && b) := by
  by_cases h : i = k
  · simp [flagAt, h, hk]
  · have hout : i < k ∨ i - k ≠ 0 := by omega
    rcases hout with hlt | hne <;> simp [flagAt, *]

/-- ERRCODE occupies bits [15:12] of STATUS. -/
theorem getLsbD_errcodeField (c : BitVec 4) (i : Nat) :
    (c.setWidth 32 <<< 12).getLsbD i = (decide (12 ≤ i ∧ i ≤ 15) && c.getLsbD (i - 12)) := by
  by_cases h : 12 ≤ i ∧ i ≤ 15
  · have hlt : i < 32 := by omega
    simp [h, hlt]
  · have hout : i < 12 ∨ 4 ≤ i - 12 := by omega
    rcases hout with hlt | hge
    · simp [h, hlt]
    · simp [h, BitVec.getLsbD_of_ge c _ hge]

theorem toBit_eq_decide (d : Direction) : d.toBit = decide (d = .decrypt) := by
  cases d <;> rfl

/-- Truncating a word to its low `n` bits and reading it back masks it. -/
theorem setWidth_setWidth_eq_and {n : Nat} (v : Word) :
    (v.setWidth n).setWidth 32 = v &&& (BitVec.allOnes n).setWidth 32 := by
  ext i hi
  simp [hi, Bool.and_comm]

/-- Settles O15: each flag is one bit of the word and ERRCODE four; the write is never dropped. -/
theorem statusReadAndWriteOneToClear : Obligations.StatusReadAndWriteOneToClear := by
  intro s
  constructor
  · intro i
    simp (disch := decide) only [readReg, statusWord, BitVec.getLsbD_or, getLsbD_flagAt,
      getLsbD_errcodeField, toBit_eq_decide]
    by_cases hi : i < 9
    · interval_cases i <;> simp
    · have hflag : ∀ k < 9, i ≠ k := by omega
      simp [hflag]
  · intro v es hr he
    exact step_busWrite hr he (nomatch ·.1) rfl

/-- Settles O17: the write is never dropped and keeps the low three bits. -/
theorem interruptEnableWrite : Obligations.InterruptEnableWrite := by
  intro s v es hr he
  exact ⟨rfl, _, step_busWrite hr he (nomatch ·.1) rfl, setWidth_setWidth_eq_and v, rfl⟩

/-- Settles O18: AKLEN and XKV side by side are the low nine bits of the word written. -/
theorem keyConfigurationWrite : Obligations.KeyConfigurationWrite := by
  intro s v es hr hb hc hm he
  have hd : dropped s .keycfg = false := by simp [dropped, State.sessionOpen_eq, hb, hc, hm]
  refine ⟨_, step_busWrite hr he (nomatch ·.1) hd, ?_, rfl, rfl⟩
  have hbits : (v.setWidth 8).setWidth 32 ||| flagAt (v.getLsbD 8) 8 =
      (v.setWidth 9).setWidth 32 := by
    apply BitVec.eq_of_getLsbD_eq
    intro i hi
    rw [BitVec.getLsbD_or, getLsbD_flagAt _ _ _ (by decide)]
    by_cases h8 : i = 8
    · simp [h8]
    · have hlt : i < 8 ↔ i < 9 := by omega
      simp [hi, h8, hlt]
  exact hbits.trans (setWidth_setWidth_eq_and v)

/-- A legal capacity fits CAPS. -/
theorem capsWord_of_wf {s : State} (h : Memory.wf s.dbuf = true) :
    capsWord s = BitVec.ofNat 32 s.xw := by
  obtain ⟨-, hle⟩ := (xwLegal_iff s.xw).mp h
  have hlt : s.xw < 2 ^ 16 := by omega
  apply BitVec.eq_of_toNat_eq
  rw [capsWord, BitVec.toNat_setWidth, BitVec.toNat_ofNat, BitVec.toNat_ofNat, Nat.mod_eq_of_lt hlt]

/-- Settles O19: a legal capacity fits CAPS, and a write is ignored in reset and out of it. -/
theorem capsReadsTheCapacity : Obligations.CapsReadsTheCapacity := by
  refine ⟨?_, fun s hwf => ⟨capsWord_of_wf hwf, fun v es he => ?_⟩⟩
  · have hxw : State.reset.xw = 64 := drawMemory_length 0 64
    exact (capsWord_of_wf reset_wf).trans (congrArg (BitVec.ofNat 32) hxw)
  · by_cases hr : s.rstN = true
    · exact step_busWrite hr he (nomatch ·.1) rfl
    · exact (step_of_cons s _ es he).trans (if_neg hr)

end Sys2Proof.Machine
end

section
/-!
PROOFS. Every step keeps the invariant `State.Inv`. Each update of the state that a command or a host
access is made of keeps it on its own, under the conditions the update is made in; a command keeps it
because the updates it applies before its commit do, and the commit does.
-/

namespace Sys2Proof.Machine

open Sys2Proof

/-! ### Blocks through files (20_memory.md R78) -/

/-- Bit `i` of a word is a bit of the lane it lies in. -/
theorem getLsbD_wordOfColumn (c : Column) (i : Nat) :
    (wordOfColumn c).getLsbD i =
      if i < 8 then c.e0.getLsbD i
      else if i - 8 < 8 then c.e1.getLsbD (i - 8)
      else if i - 8 - 8 < 8 then c.e2.getLsbD (i - 8 - 8)
      else c.e3.getLsbD (i - 8 - 8 - 8) := by
  have happend : (wordOfColumn c).getLsbD i =
      BitVec.getLsbD (w := 8 + 8 + 8 + 8) (c.e3 ++ c.e2 ++ c.e1 ++ c.e0) i := rfl
  rw [happend, BitVec.getLsbD_append, BitVec.getLsbD_append, BitVec.getLsbD_append]

theorem columnOfWord_wordOfColumn (c : Column) : columnOfWord (wordOfColumn c) = c := by
  have lane : ∀ (k : Nat) (x : Byte), (∀ i < 8, (wordOfColumn c).getLsbD (k + i) = x.getLsbD i) →
      (wordOfColumn c).extractLsb' k 8 = x := fun k x h => by
    apply BitVec.eq_of_getLsbD_eq
    intro i hi
    simp [hi, h i hi]
  apply Quad.ext <;> refine lane _ _ fun i hi => ?_ <;> rw [getLsbD_wordOfColumn] <;>
    simp (disch := omega) [if_pos, if_neg, Nat.sub_sub]

@[simp] theorem blockOfFile_fileOfBlock (b : Block) : blockOfFile (fileOfBlock b) = b := by
  simp only [blockOfFile, fileOfBlock, Quad.map, columnOfWord_wordOfColumn]

/-! ### Session lengths (41_cbc.md R172, 42_cmac.md R195) -/

/-- A CBC session has at least one block to come. -/
theorem len_div_ne_zero {s : State} (h : s.blockSizeOk = true) : s.len / 16 ≠ 0 := by
  obtain ⟨hpos, hmod⟩ := s.blockSizeOk_iff.mp h
  rw [State.lenNat_eq] at hpos hmod
  intro hz
  have : s.len.toNat / 16 = 0 := congrArg BitVec.toNat hz
  omega

/-- A CMAC session has at least one block to come. -/
theorem cmacBlocks_lenNat_ne_zero (s : State) : BitVec.ofNat 32 (cmacBlocks s.lenNat) ≠ 0 := by
  have hlt : s.lenNat < 2 ^ 32 := s.len.isLt
  have hblocks : 0 < cmacBlocks s.lenNat ∧ cmacBlocks s.lenNat < 2 ^ 32 := by
    unfold cmacBlocks
    split <;> omega
  intro hz
  have : cmacBlocks s.lenNat % 2 ^ 32 = 0 := congrArg BitVec.toNat hz
  omega

namespace State.Inv

variable {s : State}

/-! ### The ports and the resets (20_memory.md R71, 70_reset_and_hazards.md R340, R341) -/

/-- The invariant says nothing of the events to come and of `rdata`. -/
theorem withPorts (h : s.Inv) (es : List Event) (d : Option Word) : (s.withPorts es d).Inv :=
  { h with heldInReset := fun hr => congrArg (State.withPorts es d) (h.heldInReset hr) }

theorem takeEvent (h : s.Inv) : s.takeEvent.Inv := h.withPorts s.events.tail none

theorem busRead (h : s.Inv) (a : BitVec 10) : (s.busRead a).Inv := h.withPorts s.events _

theorem releaseReset (h : s.Inv) : s.releaseReset.Inv :=
  { h with heldInReset := nofun }

theorem holdReset (h : s.Inv) : s.holdReset.Inv where
  bufferLegal := Memory.wf_of_length s.dbuf _ (resetEffect_xw s) h.bufferLegal
  oneSession := nofun
  blocksLeft := ⟨nofun, fun h0 => absurd rfl h0⟩
  dirCleared _ := rfl
  sessionKey := nofun
  errReport := rfl
  noCipherFailure := nofun
  busyClears := nofun
  pendIsCmd := nofun
  subkeysValid := nofun
  cmacReady := nofun
  tagValid := nofun
  completeNoRest _ := rfl
  outlenFits := Nat.zero_le _
  heldInReset _ := rfl

/-- A rule about the held reset asks nothing of a state that is not held. -/
theorem heldInReset_of_running {p : Prop} (hr : s.rstN = true) : s.rstN = false → p :=
  fun h0 => absurd (hr.symm.trans h0) nofun

theorem resetEffect (h : s.Inv) (hr : s.rstN = true) : s.resetEffect.Inv :=
  { h.holdReset with heldInReset := heldInReset_of_running hr }

/-! ### The updates the commands are made of -/

theorem cmacAct_of_cbcAct (h : s.Inv) (ha : s.cbcAct = true) : s.cmacAct = false :=
  Bool.eq_false_of_not_eq_true fun hm => h.oneSession ⟨ha, hm⟩

theorem cbcAct_of_cmacAct (h : s.Inv) (ha : s.cmacAct = true) : s.cbcAct = false :=
  Bool.eq_false_of_not_eq_true fun hc => h.oneSession ⟨hc, ha⟩

theorem commit (h : s.Inv) (hr : s.rstN = true) {c : ErrCode} (hc : c ≠ .underlyingCipherFailure) :
    (s.commit c).Inv :=
  { h with
    errReport := rfl
    noCipherFailure := hc
    busyClears := nofun
    pendIsCmd := nofun
    heldInReset := heldInReset_of_running hr }

theorem putOutput (h : s.Inv) (hr : s.rstN = true) (b : Block) : (s.putOutput b).Inv :=
  { h with
    cmacReady := fun ha => ⟨(h.cmacReady ha).1, rfl⟩
    tagValid := nofun
    heldInReset := heldInReset_of_running hr }

theorem openCbc (h : s.Inv) (hr : s.rstN = true) (ho : s.sessionOpen = false) (hk : s.aklen = 16)
    (hb : s.blockSizeOk = true) (d : Direction) : (s.openCbc d).Inv :=
  have hm : s.cmacAct = false := (Bool.or_eq_false_iff.mp ho).2
  { h with
    oneSession := fun hboth => absurd (hm.symm.trans hboth.2) nofun
    blocksLeft := ⟨fun _ => len_div_ne_zero hb, fun _ => rfl⟩
    dirCleared := nofun
    sessionKey := fun _ => hk
    heldInReset := heldInReset_of_running hr }

theorem cbcAdvance (h : s.Inv) (hr : s.rstN = true) (ha : s.cbcAct = true) (out chain : Block) :
    (s.cbcAdvance out chain).Inv :=
  have hm : s.cmacAct = false := h.cmacAct_of_cbcAct ha
  have ho : s.sessionOpen = true := by rw [s.sessionOpen_eq, ha, Bool.true_or]
  { h.putOutput hr out with
    oneSession := fun hboth => absurd (hm.symm.trans hboth.2) nofun
    blocksLeft := by simp [State.sessionOpen_eq, ha, hm]
    dirCleared := by
      rw [State.cbcAdvance_cbcAct, State.cbcAdvance_cbcDir]
      split <;> simp [ha]
    sessionKey := fun _ => h.sessionKey ho
    heldInReset := heldInReset_of_running hr }

theorem cbcEncryptBlock (h : s.Inv) (hr : s.rstN = true) (ha : s.cbcAct = true) :
    s.cbcEncryptBlock.Inv := h.cbcAdvance hr ha _ _

theorem cbcDecryptBlock (h : s.Inv) (hr : s.rstN = true) (ha : s.cbcAct = true) :
    s.cbcDecryptBlock.Inv := h.cbcAdvance hr ha _ _

theorem putSubkeys (h : s.Inv) (hr : s.rstN = true) : s.putSubkeys.Inv :=
  { h with
    subkeysValid := fun _ => ⟨blockOfFile_fileOfBlock _, blockOfFile_fileOfBlock _⟩
    cmacReady := fun ha => ⟨rfl, (h.cmacReady ha).2⟩
    heldInReset := heldInReset_of_running hr }

theorem openCmac (h : s.Inv) (hr : s.rstN = true) (ho : s.sessionOpen = false)
    (hk : s.aklen = 16) : s.openCmac.Inv :=
  have hc : s.cbcAct = false := (Bool.or_eq_false_iff.mp ho).1
  { h.putSubkeys hr with
    oneSession := fun hboth => absurd (hc.symm.trans hboth.1) nofun
    blocksLeft := ⟨fun _ => cmacBlocks_lenNat_ne_zero s, fun _ => Bool.or_true _⟩
    sessionKey := fun _ => hk
    cmacReady := fun _ => ⟨rfl, rfl⟩
    tagValid := nofun
    completeNoRest := fun hcmpl => by
      have hmod : s.lenNat % 16 = 0 := by simpa using (Bool.and_eq_true_iff.mp hcmpl).2
      rw [State.openCmac_cmacR, hmod]
      rfl
    heldInReset := heldInReset_of_running hr }

theorem cmacAbsorb (h : s.Inv) (hr : s.rstN = true) (ha : s.cmacAct = true)
    (hb : 1 < s.blkcnt.toNat) : s.cmacAbsorb.Inv :=
  have ho : s.sessionOpen = true := by rw [s.sessionOpen_eq, ha, Bool.or_true]
  have hleft : s.blkcnt - 1 ≠ 0 := by bv_omega
  { h with
    blocksLeft := ⟨fun _ => hleft, fun _ => ho⟩
    heldInReset := heldInReset_of_running hr }

theorem cmacFinish (h : s.Inv) (hr : s.rstN = true) (ha : s.cmacAct = true) : s.cmacFinish.Inv :=
  have hc : s.cbcAct = false := h.cbcAct_of_cmacAct ha
  { h with
    oneSession := nofun
    blocksLeft := by simp [State.sessionOpen_eq, hc]
    sessionKey := fun _ => h.sessionKey (by rw [s.sessionOpen_eq, ha, Bool.or_true])
    cmacReady := nofun
    tagValid := fun _ => congrArg mactOf (blockOfFile_fileOfBlock s.cmacTag).symm
    heldInReset := heldInReset_of_running hr }

theorem closeSession (h : s.Inv) (hr : s.rstN = true) : s.closeSession.Inv :=
  { h with
    oneSession := nofun
    blocksLeft := ⟨nofun, fun h0 => absurd rfl h0⟩
    dirCleared := fun _ => rfl
    sessionKey := nofun
    cmacReady := nofun
    completeNoRest := nofun
    heldInReset := heldInReset_of_running hr }

theorem putBuffer (h : s.Inv) (hr : s.rstN = true) {v : List Word} {n : Nat}
    (hv : v.length ≤ s.xw) (hn : n ≤ 4 * s.xw) : (s.putBuffer v n).Inv :=
  have hxw : (s.putBuffer v n).xw = s.xw := putBuffer_xw v n s hv
  { h with
    bufferLegal := Memory.wf_of_length s.dbuf _ hxw h.bufferLegal
    outlenFits := by
      rw [hxw, State.putBuffer_outlen, BitVec.toNat_ofNat]
      exact (Nat.mod_le _ _).trans hn
    heldInReset := heldInReset_of_running hr }

/-! ### A command (70_reset_and_hazards.md R345) -/

theorem of_exec {i : Instr} {t : State} (h : s.Inv) (hr : s.rstN = true)
    (ht : exec i s = .next t) : t.Inv := by
  cases i with
  | nop =>
    obtain rfl := execNop_cases s t ht
    exact h.commit hr nofun
  | aesEnc =>
    obtain ⟨-, rfl⟩ | ⟨-, rfl⟩ := execAesEnc_cases s t ht
    · exact h.commit hr nofun
    · exact (h.putOutput hr _).commit hr nofun
  | aesDec =>
    obtain ⟨-, rfl⟩ | ⟨-, rfl⟩ := execAesDec_cases s t ht
    · exact h.commit hr nofun
    · exact (h.putOutput hr _).commit hr nofun
  | cbcStart d =>
    obtain ⟨-, rfl⟩ | ⟨-, -, rfl⟩ | ⟨-, -, -, rfl⟩ | ⟨ho, hk, hb, rfl⟩ :=
      execCbcStart_cases d s t ht
    · exact h.commit hr nofun
    · exact h.commit hr nofun
    · exact h.commit hr nofun
    · exact (h.openCbc hr ho (s.keyLengthOk_iff.mp hk) hb d).commit hr nofun
  | cbcBlock =>
    obtain ⟨-, rfl⟩ | ⟨ha, -, rfl⟩ | ⟨ha, -, rfl⟩ := execCbcBlock_cases s t ht
    · exact h.commit hr nofun
    · exact (h.cbcEncryptBlock hr ha).commit hr nofun
    · exact (h.cbcDecryptBlock hr ha).commit hr nofun
  | cmacSubkeys =>
    obtain ⟨-, rfl⟩ | ⟨-, rfl⟩ := execCmacSubkeys_cases s t ht
    · exact h.commit hr nofun
    · exact (h.putSubkeys hr).commit hr nofun
  | cmacStart =>
    obtain ⟨-, rfl⟩ | ⟨-, -, rfl⟩ | ⟨ho, hk, rfl⟩ := execCmacStart_cases s t ht
    · exact h.commit hr nofun
    · exact h.commit hr nofun
    · exact (h.openCmac hr ho (s.keyLengthOk_iff.mp hk)).commit hr nofun
  | cmacBlock =>
    obtain ⟨-, rfl⟩ | ⟨ha, hb, rfl⟩ | ⟨ha, -, rfl⟩ := execCmacBlock_cases s t ht
    · exact h.commit hr nofun
    · exact (h.cmacAbsorb hr ha hb).commit hr nofun
    · exact (h.cmacFinish hr ha).commit hr nofun
  | xxteaEncw =>
    obtain ⟨-, rfl⟩ | ⟨-, -, rfl⟩ | ⟨-, hl, rfl⟩ := execXxteaEncw_cases s t ht
    · exact h.commit hr nofun
    · exact h.commit hr nofun
    · exact (h.putBuffer hr (by simp [State.xw]) (by omega)).commit hr nofun
  | xxteaEncb =>
    obtain ⟨-, rfl⟩ | ⟨-, -, rfl⟩ | ⟨-, -, -, rfl⟩ | ⟨-, -, hl, rfl⟩ := execXxteaEncb_cases s t ht
    · exact h.commit hr nofun
    · exact (h.putBuffer hr (Nat.zero_le _) (Nat.zero_le _)).commit hr nofun
    · exact h.commit hr nofun
    · have hv : (xxteaEncryptWords (encbInput s.dbuf s.lenNat) s.xkey).length ≤ s.xw := by
        rw [xxteaEncryptWords_length, encbInput_length _ _ hl]
        exact hl
      exact (h.putBuffer hr hv (by omega)).commit hr nofun
  | xxteaDecw =>
    obtain ⟨-, rfl⟩ | ⟨-, -, rfl⟩ | ⟨-, hl, rfl⟩ := execXxteaDecw_cases s t ht
    · exact h.commit hr nofun
    · exact h.commit hr nofun
    · exact (h.putBuffer hr (by simp [State.xw]) (by omega)).commit hr nofun
  | xxteaDecb =>
    obtain ⟨-, rfl⟩ | ⟨-, -, rfl⟩ | ⟨-, -, -, rfl⟩ | ⟨-, -, hl, -, rfl⟩ | ⟨-, -, hl, hs, rfl⟩ :=
      execXxteaDecb_cases s t ht
    · exact h.commit hr nofun
    · exact (h.putBuffer hr (Nat.zero_le _) (Nat.zero_le _)).commit hr nofun
    · exact h.commit hr nofun
    · have hv : (List.replicate (wordsFor s.lenNat) (0 : Word)).length ≤ s.xw := by
        rw [List.length_replicate]
        exact hl
      exact (h.putBuffer hr hv (Nat.zero_le _)).commit hr nofun
    · have hv : s.decbWords.length ≤ s.xw := by
        rw [xxteaDecryptWords_length, decbInput_length _ _ hl]
        exact hl
      exact (h.putBuffer hr hv (by omega)).commit hr nofun
  | abort =>
    obtain rfl := execAbort_cases s t ht
    exact (h.closeSession hr).commit hr nofun
  | sreset =>
    obtain rfl := execSreset_cases s t ht
    exact h.resetEffect hr

/-! ### A host write (20_memory.md R76) -/

theorem accept (h : s.Inv) (hr : s.rstN = true) {w : Word} (hw : w ≠ sresetWord) :
    (s.accept w).Inv :=
  { h with
    errReport := rfl
    noCipherFailure := nofun
    busyClears := fun _ => ⟨rfl, rfl, rfl⟩
    pendIsCmd := fun _ hv => ⟨Option.some.inj hv, Option.some.inj hv ▸ hw⟩
    heldInReset := heldInReset_of_running hr }

theorem writeStatus (h : s.Inv) (hr : s.rstN = true) (v : Word) : (s.writeStatus v).Inv :=
  { h with
    errReport := by
      rw [State.writeStatus_err, State.writeStatus_errcode, h.errReport]
      cases v.getLsbD 2 <;> simp
    noCipherFailure := by
      rw [State.writeStatus_errcode]
      split
      · nofun
      · exact h.noCipherFailure
    busyClears := fun hb => by
      obtain ⟨hdone, herr, hcode⟩ := h.busyClears hb
      simp [hdone, herr, hcode]
    heldInReset := heldInReset_of_running hr }

/-- A key write is made outside every session, and takes the subkeys' validity away. -/
theorem clearSkv (h : s.Inv) (hr : s.rstN = true) (ho : s.sessionOpen = false) (k : BitVec 8)
    (x : Bool) (f : WordFile) :
    ({ s with aklen := k, xkv := x, akey := f, skv := false } : State).Inv :=
  { h with
    sessionKey := fun ho' => absurd (ho.symm.trans ho') nofun
    subkeysValid := nofun
    cmacReady := fun ha => absurd ((Bool.or_eq_false_iff.mp ho).2.symm.trans ha) nofun
    heldInReset := heldInReset_of_running hr }

theorem writeReg (h : s.Inv) (hr : s.rstN = true) {v : Word} {r : Reg}
    (hd : dropped s r = false) (hs : ¬(r = .cmd ∧ v = sresetWord)) : (writeReg s v r).Inv := by
  have running : ∀ {p : Prop}, s.rstN = false → p := heldInReset_of_running hr
  cases r with
  | cmd => exact h.accept hr fun hv => hs ⟨rfl, hv⟩
  | status => exact h.writeStatus hr v
  | keycfg => exact h.clearSkv hr (Bool.or_eq_false_iff.mp hd).2 _ _ s.akey
  | akey j => exact h.clearSkv hr (Bool.or_eq_false_iff.mp hd).2 s.aklen s.xkv _
  | irqen | len | xkey j | din j => exact { h with heldInReset := running }
  | dbuf i =>
    have hxw : (Machine.writeReg s v (.dbuf i)).xw = s.xw := writeReg_xw s v _
    exact { h with
      bufferLegal := Memory.wf_of_length s.dbuf _ hxw h.bufferLegal
      outlenFits := hxw ▸ h.outlenFits
      heldInReset := running }
  | outlen | blkcnt | caps | dout j | k1r j | k2r j | mact j | reserved => exact h

theorem dropWrite (h : s.Inv) (hr : s.rstN = true) : s.dropWrite.Inv :=
  { h with heldInReset := heldInReset_of_running hr }

theorem of_busWrite {a : BitVec 10} {v : Word} {t : State} (h : s.Inv)
    (ht : busWrite a v s = .next t) : t.Inv := by
  obtain ⟨-, rfl⟩ | ⟨hr, -, -, rfl⟩ | ⟨hr, hs, rfl⟩ := busWrite_cases a v s t ht
  · exact h
  · exact h.resetEffect hr
  · obtain ⟨-, heq⟩ | ⟨hd, heq⟩ := hostWriteReg_cases s v (s.regOf a)
    · exact heq ▸ h.dropWrite hr
    · exact heq ▸ h.writeReg hr hd hs

/-! ### A step (20_memory.md R87) -/

theorem of_engineTurn {t : State} (h : s.Inv) (ht : engineTurn s = .next t) : t.Inv := by
  obtain ⟨-, rfl⟩ | ⟨hr, w, -, hw⟩ := engineTurn_cases s t ht
  · exact h
  · obtain ⟨i, -, hi⟩ | ⟨-, -, rfl⟩ := runWord_cases w s t hw
    · exact h.of_exec hr hi
    · exact h.commit hr nofun

theorem of_step {t : State} (h : s.Inv) (ht : step s = .next t) : t.Inv := by
  obtain ⟨a, -, rfl⟩ | ⟨a, v, -, hw⟩ | ⟨-, he⟩ | ⟨-, rfl⟩ | ⟨-, rfl⟩ := step_cases s t ht
  · exact h.takeEvent.busRead a
  · exact h.takeEvent.of_busWrite hw
  · exact h.takeEvent.of_engineTurn he
  · exact h.takeEvent.holdReset
  · exact h.takeEvent.releaseReset

end State.Inv

/-- Settles O55: by the case of the next event, each update keeping every field of the invariant. -/
theorem stepKeepsTheInvariant : Obligations.StepKeepsTheInvariant :=
  fun _ _ h ht => h.of_step ht

end Sys2Proof.Machine
end

section
/-!
PROOFS. The bus (20_memory.md R71 to R76). A read answers in and out of reset and leaves every
register; a write is ignored, dropped or takes effect, by the register its address selects.
-/

namespace Sys2Proof.Machine

open Sys2Proof

/-! ### Reads (20_memory.md R75, 70_reset_and_hazards.md R340) -/

/-- What a bus read of an address answers, in reset and out of it. -/
def State.busWord (s : State) (a : BitVec 10) : Word := if s.rstN then readReg s (s.regOf a) else 0

theorem busWord_of_running {s : State} (hr : s.rstN = true) (a : BitVec 10) :
    s.busWord a = readReg s (s.regOf a) := if_pos hr

@[simp] theorem busWord_withPorts (s : State) (es : List Event) (d : Option Word)
    (a : BitVec 10) : (s.withPorts es d).busWord a = s.busWord a := by
  rw [State.busWord, regOf_withPorts, readReg_withPorts]
  rfl

/-- A read changes the two ports only. -/
theorem step_busRead_withPorts {s : State} {a : BitVec 10} {es : List Event}
    (he : s.events = .busRead a :: es) : step s = .next (s.withPorts es (some (s.busWord a))) := by
  rw [step_of_cons s _ es he, ← busWord_withPorts s es none]
  rfl

/-- Settles O11: the word a read answers does not depend on the ports, all that a read changes. -/
theorem hostReadHasNoSideEffect : Obligations.HostReadHasNoSideEffect := by
  intro s a es he
  refine ⟨s.busWord a, step_busRead_withPorts he, fun hr => busWord_of_running hr a,
    fun b es' => ⟨s.busWord b, ?_, fun hba => congrArg s.busWord hba⟩⟩
  exact busWord_withPorts s (.busRead b :: es') (some (s.busWord a)) b ▸
    step_busRead_withPorts (s := s.withPorts (.busRead b :: es') (some (s.busWord a))) rfl

/-! ### The register an address selects (20_memory.md R72, R74) -/

/-- The register selected, a reserved one apart, stands at the address's offset. -/
theorem offsetOfReg_regOf {s : State} {a : BitVec 10} {r : Reg} (h : s.regOf a = r)
    (hr : r ≠ .reserved) : offsetOfReg r = some (offsetOf a) := by
  subst h
  exact regAt_atOffset s.xw a.toNat hr

/-- An address never selects a word past the buffer's capacity. -/
theorem lt_xw_of_regOf_dbuf {s : State} {a : BitVec 10} {i : Nat} (h : s.regOf a = .dbuf i) :
    i < s.xw := by
  have hoff : 0x100 + 4 * i = offsetOf a := Option.some.inj (offsetOfReg_regOf h nofun)
  by_contra hle
  exact nomatch h.symm.trans (regAt_of_reserved (.inr (by omega)))

/-- The registers a host cannot write: the read-only and the reserved ones. -/
def Reg.IgnoresWrites : Reg → Prop
  | .outlen | .blkcnt | .caps | .dout _ | .k1r _ | .k2r _ | .mact _ | .reserved => True
  | _ => False

theorem ignoresWrites_of_offset {s : State} {a : BitVec 10}
    (h : (0x088 ≤ offsetOf a ∧ offsetOf a ≤ 0x0FC) ∨ 0x100 + 4 * s.xw ≤ offsetOf a ∨
      (0x014 ≤ offsetOf a ∧ offsetOf a ≤ 0x01C) ∨ (0x050 ≤ offsetOf a ∧ offsetOf a ≤ 0x084)) :
    (s.regOf a).IgnoresWrites := by
  cases hreg : s.regOf a with
  | outlen | blkcnt | caps | dout j | k1r j | k2r j | mact j | reserved => trivial
  | dbuf i =>
    have hi := lt_xw_of_regOf_dbuf hreg
    have hoff := Option.some.inj (offsetOfReg_regOf hreg nofun)
    omega
  | _ =>
    have hoff := Option.some.inj (offsetOfReg_regOf hreg nofun)
    omega

theorem readReg_of_key_offset {s : State} {a : BitVec 10}
    (h : 0x020 ≤ offsetOf a ∧ offsetOf a ≤ 0x03C) : readReg s (s.regOf a) = 0 := by
  cases hreg : s.regOf a with
  | akey j | xkey j | reserved => rfl
  | _ =>
    have hoff := Option.some.inj (offsetOfReg_regOf hreg nofun)
    omega

/-! ### Writes (20_memory.md R74, R76; 30_encoding.md R106) -/

/-- While the block is held in reset a write is ignored. -/
theorem step_busWrite_of_held {s : State} {a : BitVec 10} {v : Word} {es : List Event}
    (hr : ¬s.rstN = true) (he : s.events = .busWrite a v :: es) :
    step s = .next (s.withPorts es none) :=
  (step_of_cons s _ es he).trans (if_neg hr)

theorem ne_cmd_of_ignoresWrites {r : Reg} (h : r.IgnoresWrites) : r ≠ .cmd := by
  rintro rfl
  exact h

theorem dropped_of_ignoresWrites {r : Reg} (h : r.IgnoresWrites) (s : State) :
    dropped s r = false := by
  cases r with
  | outlen | blkcnt | caps | dout j | k1r j | k2r j | mact j | reserved => rfl
  | _ => exact h.elim

theorem writeReg_of_ignoresWrites {r : Reg} (h : r.IgnoresWrites) (s : State) (v : Word) :
    writeReg s v r = s := by
  cases r with
  | outlen | blkcnt | caps | dout j | k1r j | k2r j | mact j | reserved => rfl
  | _ => exact h.elim

/-- A write to a register the host cannot write changes nothing, in reset and out of it. -/
theorem step_busWrite_of_ignoresWrites {s : State} {a : BitVec 10} {v : Word} {es : List Event}
    (he : s.events = .busWrite a v :: es) (h : (s.regOf a).IgnoresWrites) :
    step s = .next (s.withPorts es none) := by
  by_cases hr : s.rstN = true
  · rw [step_busWrite hr he (fun hs => ne_cmd_of_ignoresWrites h hs.1)
      (dropped_of_ignoresWrites h s), writeReg_of_ignoresWrites h]
  · exact step_busWrite_of_held hr he

/-- Settles O12: the reserved and the key rows of the map read 0, and a row the host cannot write
ignores the write. -/
theorem reservedReadOnlyAndWriteOnlyOffsets : Obligations.ReservedReadOnlyAndWriteOnlyOffsets :=
  fun s _ => ⟨fun h => congrArg (readReg s) (regAt_of_reserved h), readReg_of_key_offset,
    fun h _ _ he => step_busWrite_of_ignoresWrites he (ignoresWrites_of_offset h)⟩

/-- The SRESET word written to CMD runs SRESET. -/
theorem step_busWrite_sreset {s : State} {a : BitVec 10} {es : List Event} (hr : s.rstN = true)
    (he : s.events = .busWrite a sresetWord :: es) (hreg : s.regOf a = .cmd) :
    step s = exec .sreset (s.withPorts es none) :=
  (step_of_cons s _ es he).trans ((if_pos hr).trans (if_pos ⟨hreg, rfl⟩))

/-- A write outside reset whose drop condition holds sets WDROP only. -/
theorem step_busWrite_of_dropped {s : State} {a : BitVec 10} {v : Word} {es : List Event}
    (hr : s.rstN = true) (he : s.events = .busWrite a v :: es)
    (hs : ¬(s.regOf a = .cmd ∧ v = sresetWord)) (hd : dropped s (s.regOf a) = true) :
    step s = .next (s.dropWrite.withPorts es none) := by
  have hd' : dropped (s.withPorts es none) (s.regOf a) = true :=
    (dropped_withPorts s es none _).trans hd
  have hw : busWrite a v (s.withPorts es none) = .next (hostWriteReg (s.withPorts es none) v _) :=
    busWrite_of_running a v (s.withPorts es none) hr hs
  exact (step_of_cons s _ es he).trans (hw.trans (congrArg Host.Outcome.next (if_pos hd')))

/-- A write outside reset, SRESET's apart, to a register `r` whose drop condition is `p`. -/
theorem step_busWrite_drop_or_effect {s : State} {a : BitVec 10} {v : Word} {es : List Event}
    {r : Reg} {p : Prop} (hr : s.rstN = true) (he : s.events = .busWrite a v :: es)
    (hreg : s.regOf a = r) (hs : ¬(r = .cmd ∧ v = sresetWord)) (hp : dropped s r = true ↔ p) :
    (p → step s = .next (s.dropWrite.withPorts es none)) ∧
      (¬p → step s = .next ((writeReg s v r).withPorts es none)) := by
  subst hreg
  exact ⟨fun h => step_busWrite_of_dropped hr he hs (hp.mpr h),
    fun h => step_busWrite hr he hs (Bool.eq_false_of_not_eq_true fun hd => h (hp.mp hd))⟩

/-- The drop condition of KEYCFG and AKEY (10_state.md R23). -/
theorem busy_or_sessionOpen_iff (s : State) :
    (s.busy || s.sessionOpen) = true ↔ s.busy = true ∨ s.cbcAct = true ∨ s.cmacAct = true := by
  simp [State.sessionOpen_eq]

theorem and_not_eq_ite (b c : Bool) : (b && !c) = if c then false else b := by
  cases c <;> simp

/-- Settles O14: per register, the drop condition and the effect of its row of the map; a word of DBUF
reads back as `readReg_writeReg_of_isOperand` says. -/
theorem hostWriteDropsOrTakesEffect : Obligations.HostWriteDropsOrTakesEffect := by
  intro s a v es hr he s0 dropBusy dropKey dropIt
  have write : ∀ {r : Reg} {p : Prop}, s.regOf a = r → ¬(r = .cmd ∧ v = sresetWord) →
      (dropped s r = true ↔ p) → (p → dropIt) ∧
        (¬p → step s = .next ((writeReg s v r).withPorts es none)) :=
    step_busWrite_drop_or_effect hr he
  have low : ∀ n ≤ 32, v.setWidth n = v.extractLsb' 0 n := fun _ => BitVec.setWidth_eq_extractLsb'
  refine ⟨fun hreg hv => step_busWrite_sreset hr (hv ▸ he) hreg,
    fun hreg hv => write hreg (fun hs => hv hs.2) .rfl,
    fun hreg => ?status, fun hreg => ?irqen, fun hreg => ?keycfg,
    fun hreg => write hreg (nomatch ·.1) .rfl,
    fun j hreg => write hreg (nomatch ·.1) (busy_or_sessionOpen_iff s),
    fun j hreg => write hreg (nomatch ·.1) .rfl, fun j hreg => write hreg (nomatch ·.1) .rfl,
    fun i hreg => ?dbuf⟩
  case status =>
    simp only [← and_not_eq_ite]
    exact (write (p := False) hreg (nomatch ·.1) ⟨nofun, nofun⟩).2 id
  case irqen =>
    rw [← low 3 (by decide)]
    exact (write (p := False) hreg (nomatch ·.1) ⟨nofun, nofun⟩).2 id
  case keycfg =>
    rw [← low 8 (by decide)]
    exact write hreg (nomatch ·.1) (busy_or_sessionOpen_iff s)
  case dbuf =>
    have hread := readReg_writeReg_of_isOperand (r := .dbuf i) (lt_xw_of_regOf_dbuf hreg) v
    have hdrop := write hreg (nomatch ·.1) .rfl
    refine ⟨hdrop.1, fun hb => ⟨_, hdrop.2 hb, rfl, writeReg_xw s v _, ?_, fun j hj => ?_⟩⟩
    · exact (hread (.dbuf i)).trans (if_pos rfl)
    · exact (hread (.dbuf j)).trans (if_neg fun h => hj (Reg.dbuf.inj h))

end Sys2Proof.Machine
end

section
/-!
PROOFS. The lane mapping (20_memory.md R78). A Block and its four-word file hold the same bytes, column
by column: a word and its four lanes determine each other.
-/

namespace Sys2Proof.Machine

open Sys2Proof

theorem quad_get_map {α β : Type} (f : α → β) (q : Quad α) (i : Fin 4) :
    (q.map f).get i = f (q.get i) := by
  fin_cases i <;> rfl

theorem get_columnOfWord (w : Word) (t : Fin 4) :
    (columnOfWord w).get t = w.extractLsb' (8 * t.val) 8 := by
  fin_cases t <;> rfl

/-- Column `i` of a Block is its bytes `4i` to `4i + 3`. -/
theorem block_get_eq_bytes (b : Block) (i : Fin 4) :
    b.get i = ⟨byteOf b (4 * i.val), byteOf b (4 * i.val + 1), byteOf b (4 * i.val + 2),
      byteOf b (4 * i.val + 3)⟩ := by
  fin_cases i <;> rfl

/-- Each bit of the word lies in one lane, and the other three operands are 0 there. -/
theorem wordOfColumn_eq_or (c : Column) :
    wordOfColumn c = c.e0.setWidth 32 ||| c.e1.setWidth 32 <<< 8 ||| c.e2.setWidth 32 <<< 16 |||
      c.e3.setWidth 32 <<< 24 := by
  apply BitVec.eq_of_getLsbD_eq
  intro i hi
  rw [getLsbD_wordOfColumn]
  simp only [BitVec.getLsbD_or, BitVec.getLsbD_shiftLeft, BitVec.getLsbD_setWidth, Nat.sub_sub,
    Nat.reduceAdd]
  split_ifs <;> simp (disch := omega) [BitVec.getLsbD_of_ge, decide_eq_true, decide_eq_false]

theorem wordOfColumn_columnOfWord (w : Word) : wordOfColumn (columnOfWord w) = w := by
  simp only [wordOfColumn, columnOfWord]
  rw [BitVec.extractLsb'_append_extractLsb'_eq_extractLsb' (rfl : 24 = 16 + 8),
    BitVec.extractLsb'_append_extractLsb'_eq_extractLsb' (rfl : 16 = 8 + 8),
    BitVec.extractLsb'_append_extractLsb'_eq_extractLsb' (rfl : 8 = 0 + 8)]
  exact BitVec.extractLsb'_eq_self

theorem fileOfBlock_blockOfFile (f : WordFile) : fileOfBlock (blockOfFile f) = f := by
  simp only [blockOfFile, fileOfBlock, Quad.map, wordOfColumn_columnOfWord]

/-- Settles O21: the mapping column by column, where it is the lanes of one word. -/
theorem laneMappingOfBlocks : Obligations.LaneMappingOfBlocks := by
  refine ⟨fun f j _ => ?_, fun b i => ?_, blockOfFile_fileOfBlock, fileOfBlock_blockOfFile⟩
  · rw [byteOf, blockOfFile, quad_get_map, get_columnOfWord]
    rfl
  · rw [fileOfBlock, quad_get_map, block_get_eq_bytes, wordOfColumn_eq_or]

end Sys2Proof.Machine
end

section
/-!
PROOFS. What no command but SRESET writes (20_memory.md R92, 43_xxtea.md R247, 10_state.md R28). Each
update of the state that a command is made of keeps the host's part, so a command does.
-/

namespace Sys2Proof.Machine

open Sys2Proof

/-- The fields the host, the environment and SRESET write, and no other command does: keys, operands
and configuration, CMD, WDROP, the ports, the events to come and the draw counter. -/
structure HostPart where
  /-- AKEY. -/
  akey : WordFile
  /-- XKEY. -/
  xkey : WordFile
  /-- DIN. -/
  din : WordFile
  /-- LEN. -/
  len : Word
  /-- KEYCFG.AKLEN. -/
  aklen : BitVec 8
  /-- KEYCFG.XKV. -/
  xkv : Bool
  /-- IRQEN. -/
  irqen : BitVec 3
  /-- CMD. -/
  cmd : Word
  /-- STATUS.WDROP. -/
  wdrop : Bool
  /-- `rst_n`. -/
  rstN : Bool
  /-- `rdata`. -/
  rdata : Option Word
  /-- The events still to come. -/
  events : List Event
  /-- The draws of DBUF's contents made. -/
  draws : Nat

/-- The host's part of a state. -/
def State.hostPart (s : State) : HostPart where
  akey := s.akey
  xkey := s.xkey
  din := s.din
  len := s.len
  aklen := s.aklen
  xkv := s.xkv
  irqen := s.irqen
  cmd := s.cmd
  wdrop := s.wdrop
  rstN := s.rstN
  rdata := s.rdata
  events := s.events
  draws := s.draws

@[simp] theorem State.commit_hostPart (c : ErrCode) (s : State) :
    (s.commit c).hostPart = s.hostPart := rfl
@[simp] theorem State.putOutput_hostPart (b : Block) (s : State) :
    (s.putOutput b).hostPart = s.hostPart := rfl
@[simp] theorem State.putBuffer_hostPart (v : List Word) (n : Nat) (s : State) :
    (s.putBuffer v n).hostPart = s.hostPart := rfl
@[simp] theorem State.openCbc_hostPart (d : Direction) (s : State) :
    (s.openCbc d).hostPart = s.hostPart := rfl
@[simp] theorem State.cbcAdvance_hostPart (o c : Block) (s : State) :
    (s.cbcAdvance o c).hostPart = s.hostPart := rfl
@[simp] theorem State.putSubkeys_hostPart (s : State) : s.putSubkeys.hostPart = s.hostPart := rfl
@[simp] theorem State.openCmac_hostPart (s : State) : s.openCmac.hostPart = s.hostPart := rfl
@[simp] theorem State.cmacAbsorb_hostPart (s : State) : s.cmacAbsorb.hostPart = s.hostPart := rfl
@[simp] theorem State.cmacFinish_hostPart (s : State) : s.cmacFinish.hostPart = s.hostPart := rfl
@[simp] theorem State.closeSession_hostPart (s : State) :
    s.closeSession.hostPart = s.hostPart := rfl

/-- Every command but SRESET keeps the host's part: each update it is made of does. -/
theorem exec_hostPart {i : Instr} {s t : State} (hi : i ≠ .sreset) (h : exec i s = .next t) :
    t.hostPart = s.hostPart := by
  cases i with
  | nop => obtain rfl := execNop_cases s t h; simp
  | aesEnc => obtain ⟨-, rfl⟩ | ⟨-, rfl⟩ := execAesEnc_cases s t h <;> simp
  | aesDec => obtain ⟨-, rfl⟩ | ⟨-, rfl⟩ := execAesDec_cases s t h <;> simp
  | cbcStart d =>
    obtain ⟨-, rfl⟩ | ⟨-, -, rfl⟩ | ⟨-, -, -, rfl⟩ | ⟨-, -, -, rfl⟩ :=
      execCbcStart_cases d s t h <;> simp
  | cbcBlock =>
    obtain ⟨-, rfl⟩ | ⟨-, -, rfl⟩ | ⟨-, -, rfl⟩ := execCbcBlock_cases s t h <;> simp
  | cmacSubkeys => obtain ⟨-, rfl⟩ | ⟨-, rfl⟩ := execCmacSubkeys_cases s t h <;> simp
  | cmacStart =>
    obtain ⟨-, rfl⟩ | ⟨-, -, rfl⟩ | ⟨-, -, rfl⟩ := execCmacStart_cases s t h <;> simp
  | cmacBlock =>
    obtain ⟨-, rfl⟩ | ⟨-, -, rfl⟩ | ⟨-, -, rfl⟩ := execCmacBlock_cases s t h <;> simp
  | xxteaEncw =>
    obtain ⟨-, rfl⟩ | ⟨-, -, rfl⟩ | ⟨-, -, rfl⟩ := execXxteaEncw_cases s t h <;> simp
  | xxteaEncb =>
    obtain ⟨-, rfl⟩ | ⟨-, -, rfl⟩ | ⟨-, -, -, rfl⟩ | ⟨-, -, -, rfl⟩ :=
      execXxteaEncb_cases s t h <;> simp
  | xxteaDecw =>
    obtain ⟨-, rfl⟩ | ⟨-, -, rfl⟩ | ⟨-, -, rfl⟩ := execXxteaDecw_cases s t h <;> simp
  | xxteaDecb =>
    obtain ⟨-, rfl⟩ | ⟨-, -, rfl⟩ | ⟨-, -, -, rfl⟩ | ⟨-, -, -, -, -, rfl⟩ |
        ⟨-, -, -, -, -, rfl⟩ := execXxteaDecb_cases s t h <;> simp
  | abort => obtain rfl := execAbort_cases s t h; simp
  | sreset => exact absurd rfl hi

/-- Settles O58: the fields of the host's part, one by one. -/
theorem commandsNeverWriteTheirOperands : Obligations.CommandsNeverWriteTheirOperands :=
  fun _ _ _ hi h => HostPart.mk.inj (exec_hostPart hi h)

end Sys2Proof.Machine
end

section
/-!
PROOFS. Command words (30_encoding.md R100 to R107). A word and its three fields determine each other,
and the legal fields are exactly those of the commands: so the decoder and the encoder are inverse.
-/

namespace Sys2Proof.Machine

open Sys2Proof

/-! ### The fields of a word (R101) -/

theorem toNat_wordOf (f : CommandFields) :
    (wordOf f).toNat = 0x200 * f.rsv.toNat + 0x100 * f.m.toNat + f.op.toNat := by
  have hhigh := BitVec.toNat_append f.rsv (BitVec.ofBool f.m)
  have hall := BitVec.toNat_append (f.rsv ++ BitVec.ofBool f.m) f.op
  have hop : f.op.toNat < 2 ^ 8 := f.op.isLt
  have hm : f.m.toNat < 2 ^ 1 := f.m.toNat_lt
  rw [BitVec.toNat_ofBool, ← Nat.shiftLeft_add_eq_or_of_lt hm] at hhigh
  rw [hhigh, ← Nat.shiftLeft_add_eq_or_of_lt hop] at hall
  exact hall.trans (by omega)

theorem toNat_rsv_fieldsOf (w : Word) : (fieldsOf w).rsv.toNat = w.toNat / 0x200 := by
  simp only [fieldsOf, BitVec.extractLsb'_toNat, Nat.shiftRight_eq_div_pow]
  omega

theorem toNat_m_fieldsOf (w : Word) : (fieldsOf w).m.toNat = w.toNat / 0x100 % 2 := by
  simp only [fieldsOf, BitVec.getLsbD, Nat.toNat_testBit]

theorem op_fieldsOf (w : Word) : (fieldsOf w).op = w.setWidth 8 :=
  (BitVec.setWidth_eq_extractLsb' (by decide)).symm

theorem toNat_op_fieldsOf (w : Word) : (fieldsOf w).op.toNat = w.toNat % 0x100 := by
  rw [op_fieldsOf, BitVec.toNat_setWidth]

theorem fieldsOf_wordOf (f : CommandFields) : fieldsOf (wordOf f) = f := by
  have hop : f.op.toNat < 0x100 := f.op.isLt
  have hm : f.m.toNat < 2 := f.m.toNat_lt
  apply CommandFields.ext
  · apply BitVec.eq_of_toNat_eq
    rw [toNat_rsv_fieldsOf, toNat_wordOf]
    omega
  · apply Function.LeftInverse.injective Bool.ofNat_toNat
    rw [toNat_m_fieldsOf, toNat_wordOf]
    omega
  · apply BitVec.eq_of_toNat_eq
    rw [toNat_op_fieldsOf, toNat_wordOf]
    omega

theorem wordOf_fieldsOf (w : Word) : wordOf (fieldsOf w) = w := by
  apply BitVec.eq_of_toNat_eq
  rw [toNat_wordOf, toNat_rsv_fieldsOf, toNat_m_fieldsOf, toNat_op_fieldsOf]
  omega

/-- Fields are those of a word exactly when the word is the one they make. -/
theorem eq_fieldsOf_iff (f : CommandFields) (w : Word) : f = fieldsOf w ↔ wordOf f = w :=
  ⟨fun h => h ▸ wordOf_fieldsOf w, fun h => h ▸ (fieldsOf_wordOf f).symm⟩

theorem rsv_fieldsOf_eq_zero_iff (w : Word) : (fieldsOf w).rsv = 0 ↔ w >>> 9 = 0 := by
  rw [← BitVec.toNat_inj, ← BitVec.toNat_inj, toNat_rsv_fieldsOf, BitVec.toNat_ushiftRight,
    Nat.shiftRight_eq_div_pow]
  rfl

/-! ### The legal fields are those of the commands (R104, R107) -/

theorem wellFormed_iff (f : CommandFields) :
    f.wellFormed = true ↔
      f.rsv = 0 ∧ f.op ∈ assignedOpcodes ∧ (f.m = false ∨ f.op ∈ modifierOpcodes) := by
  simp [CommandFields.wellFormed, CommandFields.rsvZero, CommandFields.opAssigned,
    CommandFields.modifierAllowed, and_assoc]

/-- The three conditions of legality, on the word. -/
theorem legalWord_iff (w : Word) :
    legalWord w = true ↔
      w >>> 9 = 0 ∧ w.setWidth 8 ∈ assignedOpcodes ∧
        (w.getLsbD 8 = false ∨ w.setWidth 8 ∈ modifierOpcodes) := by
  rw [legalWord, wellFormed_iff, rsv_fieldsOf_eq_zero_iff, op_fieldsOf]
  rfl

theorem encodeFields_wellFormed (i : Instr) : (encodeFields i).wellFormed = true := by
  cases i with
  | cbcStart d => cases d <;> rfl
  | _ => rfl

theorem decodeOp_encodeFields (i : Instr) :
    decodeOp (encodeFields i).op (encodeFields i).m = .ok i := by
  cases i with
  | cbcStart d => cases d <;> rfl
  | _ => rfl

/-- The opcode map answers the command that has this OP and M, or rejects the word by name. -/
theorem decodeOp_cases (op : BitVec 8) (m : Bool) :
    (∃ i, decodeOp op m = .ok i ∧ encodeFields i = ⟨0, m, op⟩) ∨
      decodeOp op m =
        if assignedOpcodes.contains op then .error .modifierSet else .error .reservedOpcode := by
  have eq_op : ∀ n : BitVec 8, op.toNat = n.toNat → n = op :=
    fun _ h => (BitVec.eq_of_toNat_eq h).symm
  unfold decodeOp
  split
  case h_16 => exact .inr rfl
  all_goals exact .inl ⟨_, rfl, congrArg (CommandFields.mk 0 _) (eq_op _ ‹_›)⟩

theorem decodeOp_eq_ok_iff (op : BitVec 8) (m : Bool) (i : Instr) :
    decodeOp op m = .ok i ↔ encodeFields i = ⟨0, m, op⟩ := by
  refine ⟨fun h => ?_, fun h => ?_⟩
  · obtain ⟨j, hj, hfields⟩ | herr := decodeOp_cases op m
    · exact Except.ok.inj (h.symm.trans hj) ▸ hfields
    · rw [h] at herr
      split at herr <;> nomatch herr
  · have hi := decodeOp_encodeFields i
    rwa [h] at hi

/-- Legal fields are some command's: with M = 0 one of the twelve assigned opcodes, with M = 1 one of
the three that have an M bit. -/
theorem exists_encodeFields_of_wellFormed {f : CommandFields} (h : f.wellFormed = true) :
    ∃ i, encodeFields i = f := by
  obtain ⟨rsv, m, op⟩ := f
  obtain ⟨rfl, hop, hm⟩ := (wellFormed_iff _).mp h
  cases m with
  | false =>
    simp only [assignedOpcodes, List.mem_cons, List.not_mem_nil, or_false] at hop
    rcases hop with rfl | rfl | rfl | rfl | rfl | rfl | rfl | rfl | rfl | rfl | rfl | rfl
    exacts [⟨.nop, rfl⟩, ⟨.aesEnc, rfl⟩, ⟨.aesDec, rfl⟩, ⟨.cbcStart .encrypt, rfl⟩, ⟨.cbcBlock, rfl⟩,
      ⟨.cmacSubkeys, rfl⟩, ⟨.cmacStart, rfl⟩, ⟨.cmacBlock, rfl⟩, ⟨.xxteaEncw, rfl⟩,
      ⟨.xxteaDecw, rfl⟩, ⟨.abort, rfl⟩, ⟨.sreset, rfl⟩]
  | true =>
    simp only [Bool.true_eq_false, false_or, modifierOpcodes, List.mem_cons, List.not_mem_nil,
      or_false] at hm
    rcases hm with rfl | rfl | rfl
    exacts [⟨.cbcStart .decrypt, rfl⟩, ⟨.xxteaEncb, rfl⟩, ⟨.xxteaDecb, rfl⟩]

/-! ### Decoding and encoding (R104) -/

theorem decode_eq_decodeOp {w : Word} (h : (fieldsOf w).rsv = 0) :
    decode w = decodeOp (fieldsOf w).op (fieldsOf w).m := if_pos (beq_iff_eq.mpr h)

theorem decode_eq_reservedBits {w : Word} (h : (fieldsOf w).rsv ≠ 0) :
    decode w = .error .reservedBits := if_neg fun hb => h (beq_iff_eq.mp hb)

/-- A word decodes to the command that has its fields. -/
theorem decode_eq_ok_iff_fields (w : Word) (i : Instr) :
    decode w = .ok i ↔ encodeFields i = fieldsOf w := by
  by_cases h : (fieldsOf w).rsv = 0
  · rw [decode_eq_decodeOp h, decodeOp_eq_ok_iff, ← h]
  · have hrsv : (encodeFields i).rsv = 0 := ((wellFormed_iff _).mp (encodeFields_wellFormed i)).1
    rw [decode_eq_reservedBits h]
    exact ⟨nofun, fun hi => absurd (hi ▸ hrsv) h⟩

theorem decode_eq_ok_iff (w : Word) (i : Instr) : decode w = .ok i ↔ encode i = w :=
  (decode_eq_ok_iff_fields w i).trans (eq_fieldsOf_iff _ w)

theorem decode_encode (i : Instr) : decode (encode i) = .ok i := (decode_eq_ok_iff _ i).mpr rfl

theorem exists_decode_iff_legalWord (w : Word) : (∃ i, decode w = .ok i) ↔ legalWord w = true := by
  simp only [decode_eq_ok_iff_fields]
  exact ⟨fun ⟨i, hi⟩ => (congrArg CommandFields.wellFormed hi).symm.trans (encodeFields_wellFormed i),
    exists_encodeFields_of_wellFormed⟩

/-- Settles O5: a word and its fields determine each other, and the legal fields are those of the
commands. -/
theorem decodeIsInverseOfEncode : Obligations.DecodeIsInverseOfEncode :=
  fun w => ⟨decode_eq_ok_iff w, (exists_decode_iff_legalWord w).trans (legalWord_iff w)⟩

/-! ### Reserved opcodes and unused M bits (R104, R107) -/

theorem decodeOp_of_reserved {op : BitVec 8} (h : op ∉ assignedOpcodes) (m : Bool) :
    decodeOp op m = .error .reservedOpcode := by
  obtain ⟨i, -, hi⟩ | herr := decodeOp_cases op m
  · have hop := ((wellFormed_iff _).mp (encodeFields_wellFormed i)).2.1
    rw [hi] at hop
    exact absurd hop h
  · exact herr.trans (if_neg fun hc => h (List.contains_iff_mem.mp hc))

theorem decode_wordOf_of_reserved {op : BitVec 8} (h : op ∉ assignedOpcodes) (m : Bool) :
    decode (wordOf ⟨0, m, op⟩) = .error .reservedOpcode := by
  rw [decode_eq_decodeOp (by rw [fieldsOf_wordOf]), fieldsOf_wordOf]
  exact decodeOp_of_reserved h m

theorem ofNat_eq_wordOf {op : Nat} (h : op < 0x100) (m : Bool) :
    BitVec.ofNat 32 (0x100 * m.toNat + op) = wordOf ⟨0, m, BitVec.ofNat 8 op⟩ := by
  have hm : m.toNat < 2 := m.toNat_lt
  apply BitVec.eq_of_toNat_eq
  rw [toNat_wordOf]
  simp only [BitVec.toNat_ofNat, BitVec.ofNat_eq_ofNat]
  omega

theorem not_mem_assignedOpcodes {op : Nat}
    (h : (0x0A ≤ op ∧ op ≤ 0x0D) ∨ (0x10 ≤ op ∧ op ≤ 0xFF)) :
    BitVec.ofNat 8 op ∉ assignedOpcodes := by
  simp [assignedOpcodes, ← BitVec.toNat_inj]
  omega

/-- A number with a reserved opcode and RSV = 0 is rejected, whatever its M bit. -/
theorem decode_ofNat_of_reserved {op : Nat}
    (h : (0x0A ≤ op ∧ op ≤ 0x0D) ∨ (0x10 ≤ op ∧ op ≤ 0xFF)) (m : Bool) :
    decode (BitVec.ofNat 32 (0x100 * m.toNat + op)) = .error .reservedOpcode := by
  rw [ofNat_eq_wordOf (by omega) m]
  exact decode_wordOf_of_reserved (not_mem_assignedOpcodes h) m

/-- Settles O4: the words of the table are the commands' encodings, and a reserved opcode is rejected
with either M bit. -/
theorem opcodeMapWordsDecode : Obligations.OpcodeMapWordsDecode := by
  refine ⟨?_, fun op h => ?_⟩
  · simp only [decode_eq_ok_iff]
    decide
  · exact ⟨by simpa using decode_ofNat_of_reserved h false, decode_ofNat_of_reserved h true⟩

/-- An opcode without an M bit is legal in the one word that holds nothing else. -/
theorem onlyPlainWord_of_no_modifier {op : BitVec 8} (h : op ∉ modifierOpcodes) :
    onlyPlainWord op := by
  intro w hop hne
  refine Bool.eq_false_of_not_eq_true fun hlegal => hne ?_
  obtain ⟨hrsv, -, hm | hmod⟩ := (legalWord_iff w).mp hlegal
  · have hm0 : w.toNat / 0x100 % 2 = 0 := (toNat_m_fieldsOf w).symm.trans (congrArg Bool.toNat hm)
    bv_omega
  · exact absurd (hop ▸ hmod) h

end Sys2Proof.Machine
end

section
/-!
PROOFS. Two kinds of word at CMD (30_encoding.md R105, R106). The SRESET word takes effect at its write,
and the reset effect leaves every row of the reset table; an illegal word is taken or dropped like any
other, and has no command to run at its commit.
-/

namespace Sys2Proof.Machine

open Sys2Proof

/-! ### The SRESET word (R106, 44_control.md R282, 70_reset_and_hazards.md R341) -/

theorem quad_get_replicate {α : Type} (a : α) (i : Fin 4) : (Quad.replicate a).get i = a := by
  fin_cases i <;> rfl

/-- After the reset effect every row of the reset table holds. -/
theorem resetEffect_atReset (s : State) : s.resetEffect.AtReset where
  cmd := rfl
  status := by simp [statusWord, State.busy, flagAt, errBits, Direction.toBit]
  irqen := rfl
  keycfg := ⟨rfl, rfl⟩
  counts := ⟨rfl, rfl, rfl⟩
  caps := capsWord_of_wf
  keys j := ⟨quad_get_replicate 0 j, quad_get_replicate 0 j⟩
  blocks j := ⟨quad_get_replicate 0 j, quad_get_replicate 0 j⟩
  subkeys j := ⟨quad_get_replicate 0 j, quad_get_replicate 0 j⟩
  mact j := by fin_cases j <;> rfl
  cv j := (congrArg (Quad.get · _) (quad_get_replicate _ _)).trans (quad_get_replicate _ _)
  padding := ⟨rfl, rfl⟩
  pend := rfl
  irq := rfl

theorem regOf_zero (s : State) : s.regOf 0 = .cmd := rfl

/-- Settles O3: the word decodes to SRESET alone, whose effect at the write is the reset effect. -/
theorem sresetActsAtTheWrite : Obligations.SresetActsAtTheWrite := by
  refine ⟨decode_encode .sreset, onlyPlainWord_of_no_modifier (by decide), fun s es hr he => ?_⟩
  exact ⟨(s.withPorts es none).resetEffect, step_busWrite_sreset hr he (regOf_zero s), rfl,
    resetEffect_atReset _, rfl, rfl, rfl, rfl, rfl, resetEffect_xw _, hr, rfl⟩

/-! ### Illegal words (R105) -/

theorem runWord_of_illegal {w : Word} (h : legalWord w = false) (s : State) :
    runWord w s = .next (errorReport .illegalCommand s) := by
  cases hd : decode w with
  | ok i => exact absurd (h.symm.trans ((exists_decode_iff_legalWord w).mp ⟨i, hd⟩)) nofun
  | error e => rw [runWord, hd]; rfl

/-- Settles O6: an illegal word is not SRESET's, so CMD takes or drops it as it does any other; at the
engine's turn it decodes to no command. -/
theorem illegalWordIsReportedAtCommit : Obligations.IllegalWordIsReportedAtCommit := by
  intro s w hw hr
  have hs : ¬(Reg.cmd = .cmd ∧ w = sresetWord) := by
    rintro ⟨-, rfl⟩
    exact nomatch hw
  have hwrite {es : List Event} (he : s.events = .busWrite 0 w :: es) :=
    step_busWrite_drop_or_effect hr he (regOf_zero s) hs (p := s.busy = true) Iff.rfl
  refine ⟨fun hb es he => (hwrite he).2 (hb ▸ nofun), fun hb es he => (hwrite he).1 hb,
    fun hp he => ?_⟩
  rw [step, he]
  exact (engineTurn_of_pending s.takeEvent w hr hp).trans (runWord_of_illegal hw s.takeEvent)

end Sys2Proof.Machine
end

section
/-!
PROOFS. The bytes of AES-128: GF(2^8) and the S-boxes (40_aes_core.md R132 to R135). Multiplication
is linear in its first factor, because `xtime` is; the S-box tables are checked byte by byte.
-/

namespace Sys2Proof.Machine

open Sys2Proof

/-! ### The S-box tables (R133 to R135) -/

/-- The inverse of the affine map of R133, so that R134's table gives the inverse in GF(2^8). -/
def sboxAffineInv (b : Byte) : Byte := rotl8 b 1 ^^^ rotl8 b 3 ^^^ rotl8 b 6 ^^^ 0x05

theorem sboxAffine_sboxAffineInv : ∀ b : Byte, sboxAffine (sboxAffineInv b) = b := by
  decide +kernel

theorem gfInv_eq_sboxAffineInv_sbox : ∀ a : Byte, gfInv a = sboxAffineInv (sbox a) := by
  decide +kernel

theorem gmul_sboxAffineInv_sbox : ∀ a : Byte, a ≠ 0 → gmul a (sboxAffineInv (sbox a)) = 1 := by
  decide +kernel

theorem invSbox_sbox : ∀ a : Byte, invSbox (sbox a) = a := by decide +kernel

theorem sbox_invSbox : ∀ a : Byte, sbox (invSbox a) = a := by decide +kernel

/-- Settles O22: the table's byte with the affine map undone is `a^254` and is inverse to `a`. -/
theorem sboxTableIsAlgebraic : Obligations.SboxTableIsAlgebraic := by
  refine ⟨gfInv_eq_sboxAffineInv_sbox 0, fun a => ?_⟩
  rw [gfInv_eq_sboxAffineInv_sbox, sboxAffine_sboxAffineInv]
  exact ⟨gmul_sboxAffineInv_sbox a, rfl, invSbox_sbox a, sbox_invSbox a⟩

/-! ### Multiplication is linear (R132) -/

theorem xtime_xor (a b : Byte) : xtime (a ^^^ b) = xtime a ^^^ xtime b := by
  simp only [xtime, BitVec.shiftLeft_xor_distrib, BitVec.getLsbD_xor]
  cases a.getLsbD 7 <;> cases b.getLsbD 7 <;> simp [← BitVec.xor_assoc, BitVec.xor_comm]

theorem xtimePow_xor (i : Nat) (a b : Byte) :
    xtimePow i (a ^^^ b) = xtimePow i a ^^^ xtimePow i b := by
  induction i with
  | zero => rfl
  | succ i ih => rw [xtimePow, ih, xtime_xor]; rfl

theorem gmulTerm_xor (a b k : Byte) (i : Nat) :
    gmulTerm (a ^^^ b) k i = gmulTerm a k i ^^^ gmulTerm b k i := by
  cases h : k.getLsbD i <;> simp [gmulTerm, h, xtimePow_xor]

theorem gmul_xor (a b k : Byte) : gmul (a ^^^ b) k = gmul a k ^^^ gmul b k := by
  simp only [gmul, gmulTerm_xor]
  ac_rfl

end Sys2Proof.Machine
end

section
/-!
PROOFS. AES-128 (40_aes_core.md R136 to R142). Each round transformation is undone by its inverse,
so each round of decryption undoes one round of encryption; and the round keys are the columns of
the recurrence.
-/

namespace Sys2Proof.Machine

open Sys2Proof

/-! ### The round transformations are invertible (R136) -/

theorem invSubBytes_subBytes (s : Block) : invSubBytes (subBytes s) = s := by
  simp only [invSubBytes, subBytes, Quad.map, invSbox_sbox]

theorem quad_get_build {α : Type} (f : Fin 4 → α) (i : Fin 4) : (Quad.build f).get i = f i := by
  fin_cases i <;> rfl

theorem stateAt_stateOf (f : Fin 4 → Fin 4 → Byte) (r c : Fin 4) :
    stateAt (stateOf f) r c = f r c := by
  rw [stateAt, stateOf, quad_get_build, quad_get_build]

theorem stateOf_stateAt (s : Block) : stateOf (stateAt s) = s := rfl

theorem invShiftRows_shiftRows (s : Block) : invShiftRows (shiftRows s) = s := by
  simp only [invShiftRows, shiftRows, stateAt_stateOf, sub_add_cancel]
  exact stateOf_stateAt s

/-- The coefficients of MixColumns and InvMixColumns multiply to 1 on the diagonal and to 0 off it:
each power of x occurs an odd or an even number of times. -/
theorem mixColumn_coefficients (a : Byte) :
    gmul (gmul a 2) 14 ^^^ gmul a 11 ^^^ gmul a 13 ^^^ gmul (gmul a 3) 9 = a ∧
    gmul (gmul a 3) 14 ^^^ gmul (gmul a 2) 11 ^^^ gmul a 13 ^^^ gmul a 9 = 0 ∧
    gmul a 14 ^^^ gmul (gmul a 3) 11 ^^^ gmul (gmul a 2) 13 ^^^ gmul a 9 = 0 ∧
    gmul a 14 ^^^ gmul a 11 ^^^ gmul (gmul a 3) 13 ^^^ gmul (gmul a 2) 9 = 0 := by
  refine ⟨?_, ?_, ?_, ?_⟩
  all_goals
    simp only [gmul, gmulTerm, xtimePow, xtime_xor, BitVec.ofNat_eq_ofNat, BitVec.reduceGetLsb,
      Bool.false_eq_true, ↓reduceIte, BitVec.zero_xor, BitVec.xor_zero]
    ac_nf
    simp

theorem invMixColumn_mixColumn_e0 (a : Column) : (invMixColumn (mixColumn a)).e0 = a.e0 := by
  obtain ⟨p, q, r, s⟩ := a
  obtain ⟨hp, -, -, -⟩ := mixColumn_coefficients p
  obtain ⟨-, hq, -, -⟩ := mixColumn_coefficients q
  obtain ⟨-, -, hr, -⟩ := mixColumn_coefficients r
  obtain ⟨-, -, -, hs⟩ := mixColumn_coefficients s
  calc (invMixColumn (mixColumn ⟨p, q, r, s⟩)).e0
    _ = (gmul (gmul p 2) 14 ^^^ gmul p 11 ^^^ gmul p 13 ^^^ gmul (gmul p 3) 9) ^^^
        (gmul (gmul q 3) 14 ^^^ gmul (gmul q 2) 11 ^^^ gmul q 13 ^^^ gmul q 9) ^^^
        (gmul r 14 ^^^ gmul (gmul r 3) 11 ^^^ gmul (gmul r 2) 13 ^^^ gmul r 9) ^^^
        (gmul s 14 ^^^ gmul s 11 ^^^ gmul (gmul s 3) 13 ^^^ gmul (gmul s 2) 9) := by
      simp only [invMixColumn, mixColumn, gmul_xor]
      ac_rfl
    _ = p := by rw [hp, hq, hr, hs]; simp

/-- Both column maps treat the four rows alike. -/
theorem mixColumn_rotWord (a : Column) : mixColumn (rotWord a) = rotWord (mixColumn a) := by
  apply Quad.ext <;> simp only [mixColumn, rotWord] <;> ac_rfl

theorem invMixColumn_rotWord (a : Column) :
    invMixColumn (rotWord a) = rotWord (invMixColumn a) := by
  apply Quad.ext <;> simp only [invMixColumn, rotWord] <;> ac_rfl

theorem invMixColumn_mixColumn (a : Column) : invMixColumn (mixColumn a) = a := by
  have rot (b : Column) : rotWord (invMixColumn (mixColumn b)) =
      invMixColumn (mixColumn (rotWord b)) := by
    rw [mixColumn_rotWord, invMixColumn_rotWord]
  have row0 := invMixColumn_mixColumn_e0
  have row1 (b : Column) : (invMixColumn (mixColumn b)).e1 = b.e1 :=
    (congrArg Quad.e0 (rot b)).trans (row0 (rotWord b))
  have row2 (b : Column) : (invMixColumn (mixColumn b)).e2 = b.e2 :=
    (congrArg Quad.e1 (rot b)).trans (row1 (rotWord b))
  have row3 : (invMixColumn (mixColumn a)).e3 = a.e3 :=
    (congrArg Quad.e2 (rot a)).trans (row2 (rotWord a))
  exact Quad.ext (row0 a) (row1 a) (row2 a) row3

theorem invMixColumns_mixColumns (s : Block) : invMixColumns (mixColumns s) = s := by
  simp only [invMixColumns, mixColumns, Quad.map, invMixColumn_mixColumn]

theorem addRoundKey_addRoundKey (key : Block) (rk : Nat) (s : Block) :
    addRoundKey key rk (addRoundKey key rk s) = s := by
  simp only [addRoundKey, xorBlock, Quad.zipWith, xor_cancel_right]

/-! ### Decryption undoes encryption (R140, R141) -/

/-- A round of decryption is the inverse of a round of encryption, shifted by SubBytes and
ShiftRows: it takes off those of the next round, then the key and MixColumns of this one. -/
theorem decryptRound_encryptRound (key s : Block) (rk : Nat) :
    decryptRound key (shiftRows (subBytes (encryptRound key s rk))) rk =
      shiftRows (subBytes s) := by
  rw [decryptRound, invShiftRows_shiftRows, invSubBytes_subBytes, encryptRound,
    addRoundKey_addRoundKey, invMixColumns_mixColumns]

theorem foldl_decryptRound_foldl_encryptRound (key s : Block) (rks : List Nat) :
    rks.reverse.foldl (decryptRound key) (shiftRows (subBytes (rks.foldl (encryptRound key) s))) =
      shiftRows (subBytes s) := by
  induction rks generalizing s with
  | nil => rfl
  | cons rk rks ih =>
    simp only [List.foldl_cons, List.reverse_cons, List.foldl_append, List.foldl_nil, ih,
      decryptRound_encryptRound]

theorem aesDecrypt_aesEncrypt (key p : Block) : aesDecrypt key (aesEncrypt key p) = p := by
  have hrounds := foldl_decryptRound_foldl_encryptRound key (addRoundKey key 0 p)
    [1, 2, 3, 4, 5, 6, 7, 8, 9]
  simp only [List.reverse_cons, List.reverse_nil, List.nil_append, List.cons_append] at hrounds
  rw [aesDecrypt, aesEncrypt, addRoundKey_addRoundKey, hrounds, invShiftRows_shiftRows,
    invSubBytes_subBytes, addRoundKey_addRoundKey]

/-- Settles O24: round by round. -/
theorem decryptInvertsEncrypt : Obligations.DecryptInvertsEncrypt := aesDecrypt_aesEncrypt

/-! ### The key expansion (R139) -/

theorem keyColumn_eq_get (key : Block) (rk : Nat) (c : Fin 4) :
    keyColumn key (4 * rk + c.val) = (roundKey key rk).get c := by
  have hdiv : (4 * rk + c.val) / 4 = rk := by omega
  have hmod : Fin.ofNat 4 (4 * rk + c.val) = c := Fin.ext (by simp [Fin.ofNat])
  rw [keyColumn, hdiv, hmod]

theorem roundKey_eq_keyColumns (key : Block) (rk : Nat) :
    roundKey key rk = ⟨keyColumn key (4 * rk), keyColumn key (4 * rk + 1),
      keyColumn key (4 * rk + 2), keyColumn key (4 * rk + 3)⟩ :=
  Quad.ext (keyColumn_eq_get key rk 0).symm (keyColumn_eq_get key rk 1).symm
    (keyColumn_eq_get key rk 2).symm (keyColumn_eq_get key rk 3).symm

/-- A column of the next round key from the column four before it: the first also takes the
transformed last column, each next one the column before it. -/
theorem roundKey_succ_get (key : Block) (rk : Nat) (c : Fin 4) :
    (roundKey key (rk + 1)).get c = xorColumn ((roundKey key rk).get c)
      (if c = 0 then
        xorColumn (subWord (rotWord ((roundKey key rk).get 3))) ⟨rcon (rk + 1), 0x00, 0x00, 0x00⟩
      else (roundKey key (rk + 1)).get (c - 1)) := by
  fin_cases c <;> rfl

theorem keyColumn_of_lt (key : Block) {i : Nat} (h : i < 4) :
    keyColumn key i = key.get (Fin.ofNat 4 i) := by
  rw [keyColumn, Nat.div_eq_of_lt h, roundKey]

theorem keyColumn_recurrence (key : Block) {i : Nat} (h : 4 ≤ i) :
    keyColumn key i = xorColumn (keyColumn key (i - 4))
      (if i % 4 = 0 then
        xorColumn (subWord (rotWord (keyColumn key (i - 1)))) ⟨rcon (i / 4), 0x00, 0x00, 0x00⟩
      else keyColumn key (i - 1)) := by
  obtain ⟨rk, c, rfl⟩ : ∃ (rk : Nat) (c : Fin 4), i = 4 * (rk + 1) + c.val :=
    ⟨i / 4 - 1, Fin.ofNat 4 i, by simp [Fin.ofNat]; omega⟩
  have hback : 4 * (rk + 1) + c.val - 4 = 4 * rk + c.val := by omega
  rw [hback, keyColumn_eq_get, keyColumn_eq_get, roundKey_succ_get]
  by_cases hc : c = 0
  · subst hc
    have hdiv : (4 * (rk + 1) + (0 : Fin 4).val) / 4 = rk + 1 := by simp
    rw [if_pos rfl, if_pos (by simp), hdiv, ← keyColumn_eq_get key rk 3]
    rfl
  · have hpos : c.val ≠ 0 := fun h0 => hc (Fin.ext h0)
    have hprev : 4 * (rk + 1) + c.val - 1 = 4 * (rk + 1) + (c - 1).val := by
      rw [Fin.val_sub_one_of_ne_zero hc]
      omega
    rw [if_neg hc, if_neg (by omega), hprev, keyColumn_eq_get]

/-- Settles O23: a round key is its four columns, and each column of the next one is made from
those before it. -/
theorem keyExpansionRecurrence : Obligations.KeyExpansionRecurrence :=
  ⟨fun key rk _ => roundKey_eq_keyColumns key rk,
    fun key _ => ⟨keyColumn_of_lt key, fun h _ => keyColumn_recurrence key h⟩⟩

/-! ### Known answers (R142) -/

theorem aesEncrypt_zeros :
    aesEncrypt (blkBe 0) (blkBe 0) = blkBe 0x66E94BD4EF8A2C3B884CFA59CA342B2E := by decide +kernel

/-- Settles O25: the model evaluated on the two vectors. -/
theorem encryptKnownAnswers : Obligations.EncryptKnownAnswers :=
  ⟨aesEncrypt_zeros, by decide +kernel⟩

end Sys2Proof.Machine
end

section
/-!
PROOFS. The single-block commands (40_aes_core.md R143 to R145). Each commits with the key-length
error or with its output Block, and the two outputs undo each other.
-/

namespace Sys2Proof.Machine

open Sys2Proof

/-! ### The error report is the commit with its code (60_exceptions.md R311) -/

theorem commit_eq_errorReport {c : ErrCode} (h : c ≠ .ok) (s : State) :
    s.commit c = errorReport c s := by
  rw [State.commit, errorReport, bne_iff_ne.mpr h]

/-! ### The commands (R143, R144) -/

/-- The outcome of a command that checks AKLEN and then outputs the Block `b`. -/
theorem eq_report_of_keyLength_cases {s t : State} {b : Block}
    (h : (s.keyLengthOk = false ∧ t = s.commit .invalidKeyLength) ∨
      (s.keyLengthOk = true ∧ t = (s.putOutput b).commit .ok)) :
    (s.aklen ≠ 16 → t = errorReport .invalidKeyLength s) ∧
      (s.aklen = 16 → t = (s.putOutput b).commit .ok) := by
  obtain ⟨hk, rfl⟩ | ⟨hk, rfl⟩ := h
  · have hne : s.aklen ≠ 16 := fun hs => absurd (s.keyLengthOk_iff.mpr hs) (hk ▸ nofun)
    exact ⟨fun _ => commit_eq_errorReport (by decide) s, fun hs => absurd hs hne⟩
  · exact ⟨fun hs => absurd (s.keyLengthOk_iff.mp hk) hs, fun _ => rfl⟩

theorem exec_aesEnc_of_keyLength_ne {s : State} (h : s.aklen ≠ 16) :
    exec .aesEnc s = .next (errorReport .invalidKeyLength s) :=
  congrArg _ ((eq_report_of_keyLength_cases (execAesEnc_cases s _ rfl)).1 h)

theorem exec_aesEnc_of_keyLength {s : State} (h : s.aklen = 16) :
    exec .aesEnc s = .next ((s.putOutput (aesEncrypt s.aesKey s.dinBlock)).commit .ok) :=
  congrArg _ ((eq_report_of_keyLength_cases (execAesEnc_cases s _ rfl)).2 h)

theorem exec_aesDec_of_keyLength_ne {s : State} (h : s.aklen ≠ 16) :
    exec .aesDec s = .next (errorReport .invalidKeyLength s) :=
  congrArg _ ((eq_report_of_keyLength_cases (execAesDec_cases s _ rfl)).1 h)

theorem exec_aesDec_of_keyLength {s : State} (h : s.aklen = 16) :
    exec .aesDec s = .next ((s.putOutput (aesDecrypt s.aesKey s.dinBlock)).commit .ok) :=
  congrArg _ ((eq_report_of_keyLength_cases (execAesDec_cases s _ rfl)).2 h)

theorem blockOfFile_zeros : blockOfFile (.replicate 0) = blkBe 0 := rfl

/-- Settles O26: the word is the command's encoding; the example is the known answer for E. -/
theorem aesEncResult : Obligations.AesEncResult := by
  refine ⟨decode_encode .aesEnc, onlyPlainWord_of_no_modifier (by decide),
    fun _ => exec_aesEnc_of_keyLength_ne, fun _ => exec_aesEnc_of_keyLength, ?_⟩
  rw [blockOfFile_zeros, aesEncrypt_zeros]
  decide

/-- Settles O27: as for AES_ENC; R144's example is evaluated. -/
theorem aesDecResult : Obligations.AesDecResult :=
  ⟨decode_encode .aesDec, onlyPlainWord_of_no_modifier (by decide),
    fun _ => exec_aesDec_of_keyLength_ne, fun _ => exec_aesDec_of_keyLength, by decide +kernel⟩

/-! ### The round trip (R145) -/

/-- Settles O28: both commands run with the same key, and AES_DEC's input Block is AES_ENC's output
Block. -/
theorem aesCommandsRoundTrip : Obligations.AesCommandsRoundTrip := by
  intro s h
  refine ⟨_, _, exec_aesEnc_of_keyLength h, exec_aesDec_of_keyLength h, ?_, rfl⟩
  calc fileOfBlock (aesDecrypt s.aesKey
        (blockOfFile (fileOfBlock (aesEncrypt s.aesKey s.dinBlock))))
    _ = fileOfBlock s.dinBlock := by rw [blockOfFile_fileOfBlock, aesDecrypt_aesEncrypt]
    _ = s.din := fileOfBlock_blockOfFile s.din

end Sys2Proof.Machine
end

section
/-!
PROOFS. CBC (41_cbc.md R170 to R177). A command of a session outputs one block of the source's
function and keeps the chaining value from which the next one goes on, so the outputs of a whole
session are the function of the blocks supplied.
-/

namespace Sys2Proof.Machine

open Sys2Proof

/-! ### Decryption inverts encryption (R177) -/

theorem xorBlock_comm (a b : Block) : xorBlock a b = xorBlock b a := by
  simp only [xorBlock, Quad.zipWith, BitVec.xor_comm]

theorem xorBlock_xorBlock_cancel_right (a b : Block) : xorBlock (xorBlock a b) b = a := by
  simp only [xorBlock, Quad.zipWith, xor_cancel_right]

theorem cbcDecChain_cbcEncChain (key c : Block) (ps : List Block) :
    cbcDecChain key c (cbcEncChain key c ps) = ps := by
  induction ps generalizing c with
  | nil => rfl
  | cons p ps ih =>
    rw [cbcEncChain, cbcDecChain, ih, aesDecrypt_aesEncrypt, xorBlock_comm c,
      xorBlock_xorBlock_cancel_right]

/-- Settles O32: both chainings go on from the same ciphertext block. -/
theorem cbcDecryptInvertsEncrypt : Obligations.CbcDecryptInvertsEncrypt :=
  fun key ps => cbcDecChain_cbcEncChain key zeroBlock ps

/-! ### CBC_START (R172) -/

/-- Bits [31:9] must be clear whatever the opcode is. -/
theorem onlyModifierWords_of_opcode (op : BitVec 8) : onlyModifierWords op := fun w _ hne =>
  Bool.eq_false_of_not_eq_true fun hlegal => hne ((legalWord_iff w).mp hlegal).1

theorem sessionOpen_iff (s : State) :
    s.sessionOpen = true ↔ s.cbcAct = true ∨ s.cmacAct = true := by
  rw [s.sessionOpen_eq, Bool.or_eq_true]

theorem sessionOpen_eq_false {s : State} (hc : s.cbcAct = false) (hm : s.cmacAct = false) :
    s.sessionOpen = false := by
  rw [s.sessionOpen_eq, hc, hm, Bool.or_false]

theorem keyLengthOk_eq_false {s : State} (hk : s.aklen ≠ 16) : s.keyLengthOk = false :=
  Bool.eq_false_of_not_eq_true (hk ∘ s.keyLengthOk_iff.mp)

theorem State.blockSizeOk_iff_len (s : State) :
    s.blockSizeOk = true ↔ s.len ≠ 0 ∧ s.len.toNat % 16 = 0 := by
  rw [s.blockSizeOk_iff, s.lenNat_eq, Ne, Ne, ← BitVec.toNat_inj]
  rfl

theorem blockSizeOk_eq_false {s : State} (h : s.len = 0 ∨ s.len.toNat % 16 ≠ 0) :
    s.blockSizeOk = false := by
  refine Bool.eq_false_of_not_eq_true fun hb => ?_
  obtain ⟨hpos, hmod⟩ := s.blockSizeOk_iff_len.mp hb
  exact h.elim hpos (· hmod)

theorem exec_cbcStart (d : Direction) (s : State) : exec (.cbcStart d) s = execCbcStart d s := rfl

section

variable {s : State} (d : Direction)

theorem exec_cbcStart_of_sessionOpen (ho : s.sessionOpen = true) :
    exec (.cbcStart d) s = .next (errorReport .sequence s) := by
  rw [exec_cbcStart, execCbcStart, if_pos ho]
  rfl

theorem exec_cbcStart_of_keyLength_ne (ho : s.sessionOpen = false) (hk : s.aklen ≠ 16) :
    exec (.cbcStart d) s = .next (errorReport .invalidKeyLength s) := by
  rw [exec_cbcStart, execCbcStart, ho, keyLengthOk_eq_false hk]
  rfl

theorem exec_cbcStart_of_bad_len (ho : s.sessionOpen = false) (hk : s.aklen = 16)
    (hb : s.len = 0 ∨ s.len.toNat % 16 ≠ 0) :
    exec (.cbcStart d) s = .next (errorReport .invalidBlockSize s) := by
  rw [exec_cbcStart, execCbcStart, ho, s.keyLengthOk_iff.mpr hk, blockSizeOk_eq_false hb]
  rfl

theorem exec_cbcStart_of_len (ho : s.sessionOpen = false) (hk : s.aklen = 16)
    (hpos : s.len ≠ 0) (hmod : s.len.toNat % 16 = 0) :
    exec (.cbcStart d) s = .next ((s.openCbc d).commit .ok) := by
  rw [exec_cbcStart, execCbcStart, ho, s.keyLengthOk_iff.mpr hk,
    s.blockSizeOk_iff_len.mpr ⟨hpos, hmod⟩]
  rfl

end

theorem openCbc_eq (d : Direction) (s : State) :
    s.openCbc d = { s with
      cv := zeroBlock, blkcnt := BitVec.ofNat 32 (s.len.toNat / 16), cbcDir := d,
      cbcAct := true } := by
  have hdiv : s.len / 16 = BitVec.ofNat 32 (s.len.toNat / 16) :=
    BitVec.eq_of_toNat_eq (Nat.mod_eq_of_lt (by omega)).symm
  rw [State.openCbc, hdiv]

/-- Settles O29: the words are the command's two encodings; the checks in the order of R172. -/
theorem cbcStartOpensASession : Obligations.CbcStartOpensASession := by
  refine ⟨decode_encode (.cbcStart .encrypt), decode_encode (.cbcStart .decrypt),
    onlyModifierWords_of_opcode 0x03, fun d s => ⟨fun h => ?_, fun hc hm hk => ?_,
      fun hc hm hk hl => ?_, fun hc hm hk hpos hmod => ?_⟩⟩
  · exact exec_cbcStart_of_sessionOpen d ((sessionOpen_iff s).mpr h)
  · exact exec_cbcStart_of_keyLength_ne d (sessionOpen_eq_false hc hm) hk
  · exact exec_cbcStart_of_bad_len d (sessionOpen_eq_false hc hm) hk hl
  · rw [exec_cbcStart_of_len d (sessionOpen_eq_false hc hm) hk hpos hmod, openCbc_eq]
    rfl

/-! ### CBC_BLOCK (R173 to R175) -/

/-- The output block for the input block `x`, `c` the ciphertext block before it. -/
def cbcOutput (d : Direction) (key c x : Block) : Block :=
  match d with
  | .encrypt => aesEncrypt key (xorBlock c x)
  | .decrypt => xorBlock (aesDecrypt key x) c

/-- The ciphertext block of the input block `x`, which the next one is chained to. -/
def cbcCiphertext (d : Direction) (key c x : Block) : Block :=
  match d with
  | .encrypt => aesEncrypt key (xorBlock c x)
  | .decrypt => x

theorem exec_cbcBlock (s : State) : exec .cbcBlock s = execCbcBlock s := rfl

theorem exec_cbcBlock_of_no_session {s : State} (ha : s.cbcAct = false) :
    exec .cbcBlock s = .next (errorReport .sequence s) := by
  rw [exec_cbcBlock, execCbcBlock, ha]
  rfl

theorem exec_cbcBlock_of_session {s : State} {d : Direction} (ha : s.cbcAct = true)
    (hd : s.cbcDir = d) :
    exec .cbcBlock s = .next ((s.cbcAdvance (cbcOutput d s.aesKey s.cv s.dinBlock)
      (cbcCiphertext d s.aesKey s.cv s.dinBlock)).commit .ok) := by
  rw [exec_cbcBlock, execCbcBlock, ha, hd]
  cases d <;> rfl

/-- What a block leaves when it is not the last one, and when it is. -/
theorem exec_cbcBlock_report {s : State} {d : Direction} (ha : s.cbcAct = true)
    (hd : s.cbcDir = d) :
    let t := { s with
      dout := fileOfBlock (cbcOutput d s.aesKey s.cv s.dinBlock)
      cv := cbcCiphertext d s.aesKey s.cv s.dinBlock
      tagv := false, blkcnt := s.blkcnt - 1 }
    (s.blkcnt ≠ 1 → exec .cbcBlock s = .next (successReport t)) ∧
    (s.blkcnt = 1 → exec .cbcBlock s =
      .next (successReport { t with cbcAct := false, cbcDir := .encrypt })) := by
  have hlast : s.blkcnt - 1 = 0 ↔ s.blkcnt = 1 := sub_eq_zero
  rw [exec_cbcBlock_of_session ha hd, State.cbcAdvance]
  refine ⟨fun h => ?_, fun h => ?_⟩
  · rw [if_neg (h ∘ hlast.mp), if_neg (h ∘ hlast.mp)]
    rfl
  · rw [if_pos (hlast.mpr h), if_pos (hlast.mpr h)]
    rfl

/-- Settles O30: the output block is the ciphertext block. -/
theorem cbcBlockEncrypts : Obligations.CbcBlockEncrypts :=
  ⟨decode_encode .cbcBlock, onlyPlainWord_of_no_modifier (by decide),
    fun _ => ⟨exec_cbcBlock_of_no_session, exec_cbcBlock_report⟩⟩

/-- Settles O31: the input block is the ciphertext block. -/
theorem cbcBlockDecrypts : Obligations.CbcBlockDecrypts :=
  ⟨decode_encode .cbcBlock, onlyPlainWord_of_no_modifier (by decide),
    fun _ => ⟨exec_cbcBlock_of_no_session, exec_cbcBlock_report⟩⟩

/-! ### A whole session (R176) -/

/-- The chaining of either function from the ciphertext block `c` on. -/
def cbcChain (d : Direction) (key c : Block) (xs : List Block) : List Block :=
  match d with
  | .encrypt => cbcEncChain key c xs
  | .decrypt => cbcDecChain key c xs

theorem cbcChain_nil (d : Direction) (key c : Block) : cbcChain d key c [] = [] := by
  cases d <;> rfl

theorem cbcChain_cons (d : Direction) (key c x : Block) (xs : List Block) :
    cbcChain d key c (x :: xs) =
      cbcOutput d key c x :: cbcChain d key (cbcCiphertext d key c x) xs := by
  cases d <;> rfl

/-- A session of direction `d` without an error so far and with `n` blocks to come; it is closed
when none is. -/
structure CbcSession (d : Direction) (n : Nat) (s : State) : Prop where
  /-- BLKCNT counts the blocks to come. -/
  blocksLeft : s.blkcnt.toNat = n
  /-- The session is open while a block is to come. -/
  act : s.cbcAct = if n = 0 then false else true
  /-- CBC_DIR is cleared with CBC_ACT. -/
  dir : s.cbcDir = if n = 0 then .encrypt else d
  /-- The last report was a success. -/
  noError : s.errcode = .ok

theorem CbcSession.withDin {d : Direction} {n : Nat} {s : State} (h : CbcSession d n s)
    (f : WordFile) : CbcSession d n { s with din := f } := { h with }

theorem CbcSession.cbcAdvance {d : Direction} {n : Nat} {s : State} (h : CbcSession d (n + 1) s)
    (out chain : Block) : CbcSession d n ((s.cbcAdvance out chain).commit .ok) := by
  have hcount : (s.blkcnt - 1).toNat = n := by
    have hleft := h.blocksLeft
    bv_omega
  have hlast : s.blkcnt - 1 = 0 ↔ n = 0 := by
    rw [← BitVec.toNat_inj, hcount]
    rfl
  refine ⟨hcount, ?_, ?_, rfl⟩
  · simp only [State.commit_cbcAct, State.cbcAdvance_cbcAct, hlast, h.act, if_neg n.succ_ne_zero]
  · simp only [State.commit_cbcDir, State.cbcAdvance_cbcDir, hlast, h.dir, if_neg n.succ_ne_zero]

/-- CBC_START with LEN of `n` blocks, one at least. -/
theorem cbcSession_openCbc {s : State} {n : Nat} (hn : n ≠ 0) (hlen : s.len.toNat = 16 * n)
    (d : Direction) : CbcSession d n ((s.openCbc d).commit .ok) where
  blocksLeft := by
    rw [State.commit_blkcnt, State.openCbc_blkcnt, BitVec.toNat_udiv, hlen]
    exact Nat.mul_div_cancel_left n (by decide)
  act := (if_neg hn).symm
  dir := (if_neg hn).symm
  noError := rfl

theorem feedBlocks_cons {i : Instr} {s t : State} {b : Block}
    (h : exec i { s with din := fileOfBlock b } = .next t) (bs : List Block) :
    feedBlocks i s (b :: bs) =
      (feedBlocks i t bs).map fun r => (blockOfFile t.dout :: r.1, r.2) := by
  rw [feedBlocks, h]

/-- The block `x` in DIN: its output, and a session that goes on from its ciphertext block with the
same key. -/
theorem CbcSession.exec_next_block {d : Direction} {n : Nat} {s : State}
    (h : CbcSession d (n + 1) s) (x : Block) :
    ∃ t, exec .cbcBlock { s with din := fileOfBlock x } = .next t ∧ CbcSession d n t ∧
      blockOfFile t.dout = cbcOutput d s.aesKey s.cv x ∧
      t.cv = cbcCiphertext d s.aesKey s.cv x ∧ t.aesKey = s.aesKey := by
  have hin : CbcSession d (n + 1) { s with din := fileOfBlock x } := h.withDin (fileOfBlock x)
  have hx : State.dinBlock { s with din := fileOfBlock x } = x := blockOfFile_fileOfBlock x
  have hexec := exec_cbcBlock_of_session (d := d) hin.act hin.dir
  rw [hx] at hexec
  exact ⟨_, hexec, hin.cbcAdvance _ _, blockOfFile_fileOfBlock _, rfl, rfl⟩

theorem CbcSession.feedBlocks_eq_cbcChain {d : Direction} {xs : List Block} {s : State}
    (h : CbcSession d xs.length s) :
    ∃ u, feedBlocks .cbcBlock s xs = some (cbcChain d s.aesKey s.cv xs, u) ∧ CbcSession d 0 u := by
  induction xs generalizing s with
  | nil => exact ⟨s, by rw [cbcChain_nil]; rfl, h⟩
  | cons x xs ih =>
    obtain ⟨t, hexec, ht, hout, hcv, hkey⟩ := h.exec_next_block x
    obtain ⟨u, hfeed, hclosed⟩ := ih ht
    refine ⟨u, ?_, hclosed⟩
    rw [feedBlocks_cons hexec, hfeed, cbcChain_cons, hout, hcv, hkey]
    rfl

/-- Settles O33: the session opens with every block to come and the zero chaining value, and is
closed when all have been supplied. -/
theorem cbcSessionComputesTheFunction : Obligations.CbcSessionComputesTheFunction := by
  intro s d ps hc hm hk hne hlen
  have hn : ps.length ≠ 0 := hne ∘ List.length_eq_zero_iff.mp
  have hpos : s.len ≠ 0 := by
    intro h0
    have hzero : s.len.toNat = 0 := congrArg BitVec.toNat h0
    omega
  have hstart := exec_cbcStart_of_len d (sessionOpen_eq_false hc hm) hk hpos (by omega)
  obtain ⟨u, hfeed, hclosed⟩ := (cbcSession_openCbc hn hlen d).feedBlocks_eq_cbcChain
  refine ⟨_, u, hstart, rfl, ?_, hclosed.act, hclosed.dir,
    BitVec.eq_of_toNat_eq hclosed.blocksLeft, hclosed.noError⟩
  rw [hfeed]
  cases d <;> rfl

end Sys2Proof.Machine
end

section
/-!
PROOFS. The functions of CMAC (42_cmac.md R190 to R197): doubling on the 128-bit integer of a Block and
on its bytes, the padding of a partial block, and the tag as the odd-indexed bytes.
-/

namespace Sys2Proof.Machine

open Sys2Proof

/-! ### A Block as its 128-bit integer (00_scope.md R11) -/

/-- The big-endian integer of a column is the word of its bytes in reverse. -/
theorem columnOfBe_columnBe (c : Column) : columnOfBe (columnBe c) = c := by
  have h := columnOfWord_wordOfColumn ⟨c.e3, c.e2, c.e1, c.e0⟩
  exact Quad.ext (congrArg Quad.e3 h) (congrArg Quad.e2 h) (congrArg Quad.e1 h)
    (congrArg Quad.e0 h)

theorem columnBe_columnOfBe (w : Word) : columnBe (columnOfBe w) = w :=
  wordOfColumn_columnOfWord w

/-- The columns of a Block stand in its integer in order, column 0 in the top 32 bits. -/
theorem extractLsb'_intBe (b : Block) :
    (intBe b).extractLsb' 96 32 = columnBe b.e0 ∧ (intBe b).extractLsb' 64 32 = columnBe b.e1 ∧
      (intBe b).extractLsb' 32 32 = columnBe b.e2 ∧ (intBe b).extractLsb' 0 32 = columnBe b.e3 := by
  have skip {v start : Nat} (hi : BitVec v) (lo : Word) (h : 32 ≤ start) :
      (hi ++ lo).extractLsb' start 32 = hi.extractLsb' (start - 32) 32 :=
    BitVec.extractLsb'_append_eq_of_le h
  refine ⟨?_, ?_, ?_, BitVec.extractLsb'_append_eq_right⟩
  · exact (skip _ _ (by decide)).trans <| (skip _ _ (by decide)).trans
      BitVec.extractLsb'_append_eq_left
  · exact (skip _ _ (by decide)).trans <| (skip _ _ (by decide)).trans
      BitVec.extractLsb'_append_eq_right
  · exact (skip _ _ (by decide)).trans BitVec.extractLsb'_append_eq_right

theorem blkBe_intBe (b : Block) : blkBe (intBe b) = b := by
  obtain ⟨h0, h1, h2, h3⟩ := extractLsb'_intBe b
  rw [blkBe, h0, h1, h2, h3]
  simp only [columnOfBe_columnBe]

theorem intBe_blkBe (v : BitVec 128) : intBe (blkBe v) = v := by
  simp only [intBe, blkBe, columnBe_columnOfBe]
  rw [BitVec.extractLsb'_append_extractLsb'_eq_extractLsb' (rfl : 96 = 64 + 32),
    BitVec.extractLsb'_append_extractLsb'_eq_extractLsb' (rfl : 64 = 32 + 32),
    BitVec.extractLsb'_append_extractLsb'_eq_extractLsb' (rfl : 32 = 0 + 32)]
  exact BitVec.extractLsb'_eq_self

/-- A slice of a slice is a slice. -/
theorem extractLsb'_of_extractLsb' {w a n b m : Nat} (v : BitVec w) (h : b + m ≤ n) :
    (v.extractLsb' a n).extractLsb' b m = v.extractLsb' (a + b) m := by
  apply BitVec.eq_of_getLsbD_eq
  intro k hk
  have hin : b + k < n := by omega
  simp [hk, hin, Nat.add_assoc]

/-- Byte 0 of a Block is the most significant byte of its integer. -/
theorem byteOf_blkBe (v : BitVec 128) {j : Nat} (hj : j < 16) :
    byteOf (blkBe v) j = v.extractLsb' (8 * (15 - j)) 8 := by
  have hcol (c : Fin 4) : (blkBe v).get c = columnOfBe (v.extractLsb' (32 * (3 - c.val)) 32) := by
    fin_cases c <;> rfl
  have hrow (w : Word) (r : Fin 4) : (columnOfBe w).get r = w.extractLsb' (8 * (3 - r.val)) 8 := by
    fin_cases r <;> rfl
  have hstart : 32 * (3 - (Fin.ofNat 4 (j / 4)).val) + 8 * (3 - (Fin.ofNat 4 j).val) =
      8 * (15 - j) := by
    simp only [Fin.ofNat]
    omega
  rw [byteOf, hcol, hrow, extractLsb'_of_extractLsb' v (by omega), hstart]

theorem byteOf_eq_extractLsb' (b : Block) {j : Nat} (hj : j < 16) :
    byteOf b j = (intBe b).extractLsb' (8 * (15 - j)) 8 := by
  rw [← byteOf_blkBe _ hj, blkBe_intBe]

/-! ### Doubling (R190) -/

/-- The byte that doubling XORs into the low end of the shifted integer. -/
def dblReduction (x : Block) : Byte := if (intBe x).getLsbD 127 then 0x87 else 0x00

theorem intBe_dbl (x : Block) :
    intBe (dbl x) = if (intBe x).getLsbD 127 then (intBe x <<< 1) ^^^ 0x87 else intBe x <<< 1 :=
  intBe_blkBe _

theorem intBe_dbl_eq_xor (x : Block) :
    intBe (dbl x) = (intBe x <<< 1) ^^^ (dblReduction x).setWidth 128 := by
  rw [intBe_dbl, dblReduction]
  split
  · rfl
  · exact BitVec.xor_zero.symm

/-- The top bit of the integer is the top bit of byte 0. -/
theorem dblReduction_eq (x : Block) :
    dblReduction x = if (byteOf x 0).getLsbD 7 then 0x87 else 0x00 := by
  rw [byteOf_eq_extractLsb' x (by decide), BitVec.getLsbD_extractLsb']
  rfl

/-- Above the lowest byte only the shift acts, and it carries in the top bit of the byte below. -/
theorem extractLsb'_shift_xor_byte (v : BitVec 128) (r : Byte) {n : Nat} (hn : n < 15) :
    ((v <<< 1) ^^^ r.setWidth 128).extractLsb' (8 * (n + 1)) 8 =
      (v.extractLsb' (8 * (n + 1)) 8 <<< 1) ||| (v.extractLsb' (8 * n) 8 >>> 7) := by
  apply BitVec.eq_of_getLsbD_eq
  intro k hk
  have hshift : ((v <<< 1) ^^^ r.setWidth 128).getLsbD (8 * (n + 1) + k) =
      v.getLsbD (8 * n + 7 + k) := by
    have hr : r.getLsbD (8 * n + 7 + k + 1) = false := BitVec.getLsbD_of_ge _ _ (by omega)
    have hv : 8 * n + 7 + k + 1 < 128 := by omega
    rw [(by omega : 8 * (n + 1) + k = 8 * n + 7 + k + 1)]
    simp only [BitVec.getLsbD_xor, BitVec.getLsbD_shiftLeft, BitVec.getLsbD_setWidth, hr, hv]
    simp
  rw [BitVec.getLsbD_extractLsb', hshift]
  cases k with
  | zero => simp
  | succ k =>
    have hbelow : ¬ 7 + (k + 1) < 8 := by omega
    have hbit : 8 * n + 7 + (k + 1) = 8 * (n + 1) + k := by omega
    simp [hk, hbelow, hbit]

theorem extractLsb'_zero_shift_xor_byte (v : BitVec 128) (r : Byte) :
    ((v <<< 1) ^^^ r.setWidth 128).extractLsb' 0 8 = (v.extractLsb' 0 8 <<< 1) ^^^ r := by
  apply BitVec.eq_of_getLsbD_eq
  intro k hk
  simp only [BitVec.getLsbD_extractLsb', BitVec.getLsbD_xor, BitVec.getLsbD_shiftLeft,
    BitVec.getLsbD_setWidth, hk, (by omega : 0 + k < 128), (by omega : k - 1 < 8)]
  simp

/-- Settles O34: the integer of `dbl x` is given, and its bytes are read off the shifted integer. -/
theorem doublingBytewise : Obligations.DoublingBytewise := by
  refine fun x => ⟨fun i hi => ?_, ?_, intBe_dbl x⟩
  · obtain ⟨n, hn, hlane, hnext⟩ : ∃ n < 15, 15 - i = n + 1 ∧ 15 - (i + 1) = n :=
      ⟨14 - i, by omega, by omega, by omega⟩
    rw [byteOf_eq_extractLsb' _ (by omega), byteOf_eq_extractLsb' x (by omega),
      byteOf_eq_extractLsb' x (by omega), intBe_dbl_eq_xor, hlane, hnext,
      extractLsb'_shift_xor_byte _ _ hn]
  · rw [byteOf_eq_extractLsb' _ (by decide), byteOf_eq_extractLsb' x (j := 15) (by decide),
      intBe_dbl_eq_xor, ← dblReduction_eq]
    exact extractLsb'_zero_shift_xor_byte _ _

/-! ### Padding (R194) -/

theorem bytesOfBlock_eq_map_byteOf (b : Block) : bytesOfBlock b = (List.range 16).map (byteOf b) :=
  rfl

theorem byteOf_blockOfBytes (f : Nat → Byte) {j : Nat} (hj : j < 16) :
    byteOf (blockOfBytes f) j = f j := by
  interval_cases j <;> rfl

theorem byteOf_pad (b : Block) (r : Nat) {j : Nat} (hj : j < 16) :
    byteOf (pad b r) j = if j < r then byteOf b j else if j = r then 0x80 else 0x00 :=
  byteOf_blockOfBytes _ hj

/-- Two Blocks with the same bytes are equal. -/
theorem block_ext_bytes {a b : Block} (h : ∀ j, j < 16 → byteOf a j = byteOf b j) : a = b := by
  have hcol (i : Fin 4) : a.get i = b.get i := by
    rw [block_get_eq_bytes, block_get_eq_bytes, h _ (by omega), h _ (by omega), h _ (by omega),
      h _ (by omega)]
  exact Quad.ext (hcol 0) (hcol 1) (hcol 2) (hcol 3)

theorem pad_congr {a b : Block} {r : Nat} (h : ∀ j, j < r → byteOf a j = byteOf b j) :
    pad a r = pad b r := by
  refine block_ext_bytes fun j hj => ?_
  rw [byteOf_pad a r hj, byteOf_pad b r hj]
  split
  · exact h j ‹_›
  · rfl

theorem bytesOfBlock_pad (b : Block) {r : Nat} (hr : r ≤ 15) :
    bytesOfBlock (pad b r) =
      (bytesOfBlock b).take r ++ 0x80 :: List.replicate (15 - r) 0x00 := by
  simp only [bytesOfBlock_eq_map_byteOf]
  refine List.ext_getElem (by simp; omega) fun j hj _ => ?_
  have hlen : (((List.range 16).map (byteOf b)).take r).length = r := by simp; omega
  rw [List.getElem_map, List.getElem_range, byteOf_pad b r (by simpa using hj)]
  rcases Nat.lt_trichotomy j r with h | rfl | h
  · rw [if_pos h, List.getElem_append_left (by omega)]
    simp
  · rw [if_neg (by omega), if_pos rfl, List.getElem_append_right (by omega)]
    simp [hlen]
  · obtain ⟨d, rfl⟩ := Nat.exists_eq_add_of_lt h
    rw [if_neg (by omega), if_neg (by omega), List.getElem_append_right (by omega)]
    have hd : r + d + 1 - r = d + 1 := by omega
    simp only [hlen, hd, List.getElem_cons_succ, List.getElem_replicate]

/-- Settles O39: byte by byte. -/
theorem paddingOfAPartialBlock : Obligations.PaddingOfAPartialBlock :=
  fun b _ hr => ⟨bytesOfBlock_pad b hr, fun _ h => pad_congr h⟩

/-! ### The tag (R197) -/

/-- Word `i` of the tag, lane by lane. -/
theorem mactOf_get (t : Block) (i : Fin 2) :
    (mactOf t).get i = wordOfColumn (.build fun k => byteOf t (2 * (4 * i.val + k.val) + 1)) := by
  fin_cases i
  · simp only [Nat.mul_zero, Nat.zero_add]; rfl
  · rfl

/-- Byte `j` of the tag is byte `2j + 1` of the CMAC, in its lane of MACT. -/
theorem lane_mactOf (t : Block) {j : Nat} (hj : j < 8) :
    ((mactOf t).get (Fin.ofNat 2 (j / 4))).extractLsb' (8 * (j % 4)) 8 = byteOf t (2 * j + 1) := by
  have hword : (Fin.ofNat 2 (j / 4)).val = j / 4 := Nat.mod_eq_of_lt (by omega)
  calc ((mactOf t).get (Fin.ofNat 2 (j / 4))).extractLsb' (8 * (j % 4)) 8
    _ = (columnOfWord ((mactOf t).get (Fin.ofNat 2 (j / 4)))).get (Fin.ofNat 4 j) :=
      (get_columnOfWord _ (Fin.ofNat 4 j)).symm
    _ = byteOf t (2 * (4 * (j / 4) + j % 4) + 1) := by
      rw [mactOf_get, columnOfWord_wordOfColumn, quad_get_build, hword]
      rfl
    _ = byteOf t (2 * j + 1) := by rw [Nat.div_add_mod]

/-- Settles O40: the two words of MACT give back the lanes they were made of. -/
theorem tagIsTheOddBytes : Obligations.TagIsTheOddBytes := by
  intro t
  simp only [bytesOfWords, mactOf, List.flatMap_cons, List.flatMap_nil, columnOfWord_wordOfColumn]
  rfl

end Sys2Proof.Machine
end

section
/-!
PROOFS. The CMAC commands (42_cmac.md R193 to R202). A session on a message keeps the chaining value of
the blocks absorbed so far, so its last block leaves the CMAC of the message.
-/

namespace Sys2Proof.Machine

open Sys2Proof

/-! ### CMAC_SUBKEYS (R193) -/

theorem exec_cmacSubkeys (s : State) : exec .cmacSubkeys s = execCmacSubkeys s := rfl

theorem exec_cmacSubkeys_of_keyLength_ne {s : State} (hk : s.aklen ≠ 16) :
    exec .cmacSubkeys s = .next (errorReport .invalidKeyLength s) := by
  rw [exec_cmacSubkeys, execCmacSubkeys, keyLengthOk_eq_false hk]
  rfl

theorem exec_cmacSubkeys_of_keyLength {s : State} (hk : s.aklen = 16) :
    exec .cmacSubkeys s = .next (s.putSubkeys.commit .ok) := by
  rw [exec_cmacSubkeys, execCmacSubkeys, s.keyLengthOk_iff.mpr hk]
  rfl

/-- Settles O35: the word is the command's encoding; the one check is that of AKLEN. -/
theorem cmacSubkeysResult : Obligations.CmacSubkeysResult :=
  ⟨decode_encode .cmacSubkeys, onlyPlainWord_of_no_modifier (by decide),
    fun _ => ⟨exec_cmacSubkeys_of_keyLength_ne, exec_cmacSubkeys_of_keyLength⟩⟩

/-! ### CMAC_START (R198) -/

theorem exec_cmacStart (s : State) : exec .cmacStart s = execCmacStart s := rfl

section

variable {s : State}

theorem exec_cmacStart_of_sessionOpen (ho : s.sessionOpen = true) :
    exec .cmacStart s = .next (errorReport .sequence s) := by
  rw [exec_cmacStart, execCmacStart, if_pos ho]
  rfl

theorem exec_cmacStart_of_keyLength_ne (ho : s.sessionOpen = false) (hk : s.aklen ≠ 16) :
    exec .cmacStart s = .next (errorReport .invalidKeyLength s) := by
  rw [exec_cmacStart, execCmacStart, ho, keyLengthOk_eq_false hk]
  rfl

theorem exec_cmacStart_of_keyLength (ho : s.sessionOpen = false) (hk : s.aklen = 16) :
    exec .cmacStart s = .next (s.openCmac.commit .ok) := by
  rw [exec_cmacStart, execCmacStart, ho, s.keyLengthOk_iff.mpr hk]
  rfl

end

theorem ofNat_cmacBlocks (l : Nat) :
    BitVec.ofNat 32 (cmacBlocks l) = if l = 0 then 1 else BitVec.ofNat 32 ((l + 15) / 16) :=
  apply_ite _ _ _ _

theorem cmacComplete_iff (l : Nat) : cmacComplete l = true ↔ l ≠ 0 ∧ l % 16 = 0 := by
  simp [cmacComplete]

theorem cmacComplete_eq_decide (l : Nat) : cmacComplete l = decide (l ≠ 0 ∧ l % 16 = 0) :=
  Bool.eq_iff_iff.mpr ((cmacComplete_iff l).trans decide_eq_true_iff.symm)

/-- Settles O36: the word is the command's encoding; the checks in the order of R198. -/
theorem cmacStartOpensASession : Obligations.CmacStartOpensASession := by
  refine ⟨decode_encode .cmacStart, onlyPlainWord_of_no_modifier (by decide),
    fun s => ⟨fun h => ?_, fun hc hm hk => ?_, fun hc hm hk => ?_⟩⟩
  · exact exec_cmacStart_of_sessionOpen ((sessionOpen_iff s).mpr h)
  · exact exec_cmacStart_of_keyLength_ne (sessionOpen_eq_false hc hm) hk
  · rw [exec_cmacStart_of_keyLength (sessionOpen_eq_false hc hm) hk, State.openCmac,
      ofNat_cmacBlocks, cmacComplete_eq_decide]
    rfl

/-! ### CMAC_BLOCK (R199, R200) -/

theorem exec_cmacBlock (s : State) : exec .cmacBlock s = execCmacBlock s := rfl

section

variable {s : State}

theorem exec_cmacBlock_of_no_session (ha : s.cmacAct = false) :
    exec .cmacBlock s = .next (errorReport .sequence s) := by
  rw [exec_cmacBlock, execCmacBlock, ha]
  rfl

theorem exec_cmacBlock_of_more (ha : s.cmacAct = true) (hb : 1 < s.blkcnt.toNat) :
    exec .cmacBlock s = .next (s.cmacAbsorb.commit .ok) := by
  rw [exec_cmacBlock, execCmacBlock, ha, if_pos hb]
  rfl

theorem exec_cmacBlock_of_last (ha : s.cmacAct = true) (hb : s.blkcnt = 1) :
    exec .cmacBlock s = .next (s.cmacFinish.commit .ok) := by
  rw [exec_cmacBlock, execCmacBlock, ha, hb]
  rfl

end

/-- Settles O37: the word is the command's encoding; the rule for a block that is not the last. -/
theorem cmacBlockAbsorbs : Obligations.CmacBlockAbsorbs :=
  ⟨decode_encode .cmacBlock, onlyPlainWord_of_no_modifier (by decide),
    fun _ => ⟨exec_cmacBlock_of_no_session, exec_cmacBlock_of_more⟩⟩

/-- Settles O38: the rule for the last block; MACT holds the bytes of the tag in its lanes. -/
theorem cmacBlockFinishes : Obligations.CmacBlockFinishes :=
  ⟨decode_encode .cmacBlock, onlyPlainWord_of_no_modifier (by decide),
    fun _ => exec_cmacBlock_of_no_session,
    fun s ha hb => ⟨_, exec_cmacBlock_of_last ha hb, rfl, fun _ => lane_mactOf s.cmacTag⟩⟩

/-! ### The blocks a host supplies (R195, R201) -/

theorem byteOf_messageBlock (m : List Byte) (i : Nat) {j : Nat} (hj : j < 16) :
    byteOf (messageBlock m i) j = m.getD (16 * i + j) 0 := by
  rw [messageBlock, blockOfList, byteOf_blockOfBytes _ hj, List.getD_eq_getElem?_getD,
    List.getElem?_drop, List.getD_eq_getElem?_getD]

/-- Within the message a supplied block has the message's bytes. -/
theorem byteOf_eq_of_carries {m : List Byte} {i : Nat} {b : Block} (h : carries m i b) {j : Nat}
    (hj : j < 16) (hin : 16 * i + j < m.length) : byteOf b j = byteOf (messageBlock m i) j := by
  rw [h j hj hin, byteOf_messageBlock m i hj]

/-- A block that lies in the message as a whole is the message's block. -/
theorem eq_messageBlock_of_carries {m : List Byte} {i : Nat} {b : Block} (h : carries m i b)
    (hin : 16 * (i + 1) ≤ m.length) : b = messageBlock m i :=
  block_ext_bytes fun _ hj => byteOf_eq_of_carries h hj (by omega)

theorem cmacBlocks_pos (l : Nat) : 0 < cmacBlocks l := by
  unfold cmacBlocks
  split <;> omega

/-- Every block but the last lies in the message as a whole. -/
theorem le_of_succ_lt_cmacBlocks {i l : Nat} (h : i + 1 < cmacBlocks l) : 16 * (i + 1) ≤ l := by
  unfold cmacBlocks at h
  split at h <;> omega

/-- The message ends with its last block if that is complete, else within it. -/
theorem length_eq_of_last {i l : Nat} (h : i + 1 = cmacBlocks l) :
    l = if cmacComplete l then 16 * (i + 1) else 16 * i + l % 16 := by
  unfold cmacBlocks at h
  split
  · obtain ⟨hpos, hmod⟩ := (cmacComplete_iff l).mp ‹_›
    rw [if_neg hpos] at h
    omega
  · have hpartial : ¬(l ≠ 0 ∧ l % 16 = 0) := mt (cmacComplete_iff l).mpr ‹_›
    split at h <;> omega

/-- What the last block contributes depends on the message's bytes only. -/
theorem cmacLast_of_carries {m : List Byte} {i : Nat} {b : Block} (h : carries m i b)
    (hlast : i + 1 = cmacBlocks m.length) (k1 k2 : Block) :
    cmacLast k1 k2 (cmacComplete m.length) (m.length % 16) b =
      cmacLast k1 k2 (cmacComplete m.length) (m.length % 16) (messageBlock m i) := by
  have hlen := length_eq_of_last hlast
  cases hc : cmacComplete m.length with
  | true =>
    rw [hc, if_pos rfl] at hlen
    rw [eq_messageBlock_of_carries h hlen.ge]
  | false =>
    rw [hc, if_neg nofun] at hlen
    have hpad : pad b (m.length % 16) = pad (messageBlock m i) (m.length % 16) :=
      pad_congr fun j hj => byteOf_eq_of_carries h (by omega) (by omega)
    rw [cmacLast, if_neg nofun, cmacLast, if_neg nofun, hpad]

/-! ### A whole session (R202) -/

/-- A session on the message `m` under the key `key` with `i` of its blocks absorbed. -/
structure CmacSession (key : Block) (m : List Byte) (i : Nat) (s : State) : Prop where
  /-- The session is open. -/
  act : s.cmacAct = true
  /-- The key has not changed. -/
  sameKey : s.aesKey = key
  /-- BLKCNT counts the blocks to come. -/
  blocksLeft : s.blkcnt.toNat + i = cmacBlocks m.length
  /-- CV is the chaining value after `i` blocks. -/
  chain : s.cv = cmacChain key m i
  /-- CMAC_CMPL says whether the last block is complete. -/
  complete : s.cmacCmpl = cmacComplete m.length
  /-- CMAC_R is the number of bytes of an incomplete last block. -/
  rest : s.cmacR.toNat = m.length % 16
  /-- K1R and K2R hold the subkeys. -/
  subkeys : s.k1r = fileOfBlock (subkey1 key) ∧ s.k2r = fileOfBlock (subkey2 key)
  /-- SKV says that they do. -/
  valid : s.skv = true

/-- What a session on the message `m` under the key `key` leaves. -/
structure CmacResult (key : Block) (m : List Byte) (s : State) : Prop where
  /-- DOUT holds the CMAC. -/
  dout : s.dout = fileOfBlock (cmac key m)
  /-- MACT holds its tag. -/
  mact : s.mact = mactOf (cmac key m)
  /-- TAGV says that it does. -/
  tagv : s.tagv = true
  /-- The session is closed. -/
  act : s.cmacAct = false
  /-- No block is to come. -/
  blkcnt : s.blkcnt = 0
  /-- The last report was a success. -/
  noError : s.errcode = .ok
  /-- K1R and K2R hold the subkeys. -/
  subkeys : s.k1r = fileOfBlock (subkey1 key) ∧ s.k2r = fileOfBlock (subkey2 key)
  /-- SKV says that they do. -/
  valid : s.skv = true

theorem cmacSession_openCmac {s : State} {m : List Byte} (hlen : s.len.toNat = m.length) :
    CmacSession s.aesKey m 0 (s.openCmac.commit .ok) where
  act := rfl
  sameKey := rfl
  blocksLeft := by
    have hlt : m.length < 2 ^ 32 := hlen ▸ s.len.isLt
    have hblocks : cmacBlocks m.length < 2 ^ 32 := by
      unfold cmacBlocks
      split <;> omega
    rw [State.commit_blkcnt, State.openCmac_blkcnt, s.lenNat_eq, hlen, BitVec.toNat_ofNat,
      Nat.mod_eq_of_lt hblocks, Nat.add_zero]
  chain := rfl
  complete := congrArg cmacComplete hlen
  rest := by
    rw [State.commit_cmacR, State.openCmac_cmacR, s.lenNat_eq, hlen, BitVec.toNat_ofNat,
      Nat.mod_mod]
  subkeys := ⟨rfl, rfl⟩
  valid := rfl

section

variable {key : Block} {m : List Byte} {i : Nat} {s : State} {b : Block}

theorem CmacSession.withDin (h : CmacSession key m i s) (f : WordFile) :
    CmacSession key m i { s with din := f } := { h with }

/-- A block that is not the last goes into the chaining value. -/
theorem CmacSession.exec_block_of_more (h : CmacSession key m i s)
    (hmore : i + 1 < cmacBlocks m.length) (hb : carries m i b) :
    ∃ t, exec .cmacBlock { s with din := fileOfBlock b } = .next t ∧
      CmacSession key m (i + 1) t := by
  have hcnt : 1 < s.blkcnt.toNat := by
    have hleft := h.blocksLeft
    omega
  have hin := h.withDin (fileOfBlock b)
  refine ⟨_, exec_cmacBlock_of_more hin.act hcnt, { hin with blocksLeft := ?_, chain := ?_ }⟩
  · have hleft := h.blocksLeft
    rw [State.commit_blkcnt, State.cmacAbsorb_blkcnt]
    bv_omega
  · rw [State.commit_cv, State.cmacAbsorb_cv, hin.sameKey, hin.chain, State.dinBlock_eq,
      blockOfFile_fileOfBlock, eq_messageBlock_of_carries hb (le_of_succ_lt_cmacBlocks hmore)]
    rfl

/-- The tag of the last block is the CMAC of the message. -/
theorem CmacSession.cmacTag_eq (h : CmacSession key m i s) (hlast : i + 1 = cmacBlocks m.length)
    (hb : carries m i s.dinBlock) : s.cmacTag = cmac key m := by
  obtain ⟨hk1, hk2⟩ := h.subkeys
  have hi : i = cmacBlocks m.length - 1 := by omega
  rw [State.cmacTag, h.sameKey, h.chain, h.complete, h.rest, hk1, hk2, blockOfFile_fileOfBlock,
    blockOfFile_fileOfBlock, cmacLast_of_carries hb hlast, hi]
  rfl

/-- The last block leaves the result. -/
theorem CmacSession.exec_block_of_last (h : CmacSession key m i s)
    (hlast : i + 1 = cmacBlocks m.length) (hb : carries m i b) :
    ∃ u, exec .cmacBlock { s with din := fileOfBlock b } = .next u ∧ CmacResult key m u := by
  have hcnt : s.blkcnt = 1 := by
    have hleft := h.blocksLeft
    bv_omega
  have hin := h.withDin (fileOfBlock b)
  have htag := hin.cmacTag_eq hlast (by rwa [State.dinBlock_eq, blockOfFile_fileOfBlock])
  exact ⟨_, exec_cmacBlock_of_last hin.act hcnt,
    { dout := congrArg fileOfBlock htag
      mact := congrArg mactOf htag
      tagv := rfl
      act := rfl
      blkcnt := rfl
      noError := rfl
      subkeys := h.subkeys
      valid := h.valid }⟩

end

/-- The blocks still to come, from block `i` of the message on, lead to the result. -/
theorem CmacSession.feedBlocks_result {key : Block} {m : List Byte} {bs : List Block} {i : Nat}
    {s : State} (h : CmacSession key m i s) (hne : bs ≠ [])
    (hlen : i + bs.length = cmacBlocks m.length)
    (hbs : ∀ k, k < bs.length → carries m (i + k) (bs.getD k zeroBlock)) :
    ∃ outs u, feedBlocks .cmacBlock s bs = some (outs, u) ∧ CmacResult key m u := by
  induction bs generalizing i s with
  | nil => exact absurd rfl hne
  | cons b bs ih =>
    have hb : carries m i b := hbs 0 (Nat.zero_lt_succ _)
    rcases eq_or_ne bs [] with rfl | hmore
    · obtain ⟨u, hexec, hu⟩ := h.exec_block_of_last hlen hb
      exact ⟨_, u, feedBlocks_cons hexec [], hu⟩
    · have hpos : 0 < bs.length := List.length_pos_of_ne_nil hmore
      rw [List.length_cons] at hlen
      obtain ⟨t, hexec, ht⟩ := h.exec_block_of_more (by omega) hb
      obtain ⟨outs, u, hfeed, hu⟩ := ih ht hmore (by omega) fun k hk => by
        rw [Nat.add_right_comm]
        exact hbs (k + 1) (Nat.succ_lt_succ hk)
      exact ⟨_, u, by rw [feedBlocks_cons hexec, hfeed]; rfl, hu⟩

/-- Settles O41: the session opens with no block of the message absorbed, and the blocks lead to its
result. -/
theorem cmacSessionComputesTheCmac : Obligations.CmacSessionComputesTheCmac := by
  intro s m bs hc hm hk hlen hcount hbs
  have hne : bs ≠ [] := List.ne_nil_of_length_pos (hcount ▸ cmacBlocks_pos m.length)
  obtain ⟨outs, u, hfeed, hu⟩ := (cmacSession_openCmac hlen).feedBlocks_result hne
    (by rw [Nat.zero_add, hcount]) (by simpa only [Nat.zero_add] using hbs)
  obtain ⟨hk1, hk2⟩ := hu.subkeys
  exact ⟨_, _, outs, u, exec_cmacStart_of_keyLength (sessionOpen_eq_false hc hm) hk, rfl, hfeed,
    by rw [hu.dout, blockOfFile_fileOfBlock]; rfl, hu.mact, hu.tagv, hu.act, hu.blkcnt,
    hu.noError, exec_cmacSubkeys_of_keyLength hk, hk1, hk2, hu.valid⟩

end Sys2Proof.Machine
end

section
/-!
PROOFS. XXTEA on words (43_xxtea.md R231 to R236). Each word of a round is mixed with its two
neighbours, which the mixing leaves as they are; so a round of decryption undoes a round of
encryption word by word, and the decryption loop undoes the rounds from the last one on.
-/

namespace Sys2Proof.Machine

open Sys2Proof

/-! ### The round counts (R232) -/

theorem rounds_of_bounds {n c : Nat} (hlo : c * n ≤ 52) (hhi : 52 < (c + 1) * n) :
    rounds n = 6 + c :=
  congrArg (6 + ·) (Nat.div_eq_of_lt_le hlo hhi)

theorem rounds_lt {n : Nat} (h : 2 ≤ n) : rounds n < 2 ^ 32 :=
  (Nat.add_le_add_left (Nat.div_le_div_left h Nat.two_pos) 6).trans_lt (by decide)

/-- Settles O42: between two rows of the table `52 div n` has one value. -/
theorem roundCounts : Obligations.RoundCounts := by
  refine ⟨fun _ => rfl, by decide, fun n h9 => ?_⟩
  split_ifs with h10 h13 h17 h26 h52
  · exact rounds_of_bounds (c := 5) (by omega) (by omega)
  · exact rounds_of_bounds (c := 4) (by omega) (by omega)
  · exact rounds_of_bounds (c := 3) (by omega) (by omega)
  · exact rounds_of_bounds (c := 2) (by omega) (by omega)
  · exact rounds_of_bounds (c := 1) (by omega) (by omega)
  · exact rounds_of_bounds (c := 0) (by omega) (by omega)

/-! ### Mixing one word (R231) -/

theorem wordAt_set_self {v : List Word} {p : Nat} (h : p < v.length) (x : Word) :
    wordAt (v.set p x) p = x := by
  rw [wordAt, List.getD_eq_getElem?_getD, List.getElem?_set_self h, Option.getD_some]

theorem wordAt_set_of_ne {p i : Nat} (h : i ≠ p) (v : List Word) (x : Word) :
    wordAt (v.set p x) i = wordAt v i := by
  rw [wordAt, List.getD_eq_getElem?_getD, List.getElem?_set_ne h.symm,
    ← List.getD_eq_getElem?_getD, wordAt]

theorem set_wordAt_self {v : List Word} {p : Nat} (h : p < v.length) :
    v.set p (wordAt v p) = v := by
  rw [wordAt, List.getD_eq_getElem v 0 h, List.set_getElem_self]

/-- The index whose word is `y` when word `p` of `n + 1` is mixed. -/
def nextIndex (n p : Nat) : Nat := if p = n then 0 else p + 1

/-- The index whose word is `z` when word `p` of `n + 1` is mixed. -/
def prevIndex (n p : Nat) : Nat := if p = 0 then n else p - 1

theorem nextIndex_of_lt {n p : Nat} (h : p < n) : nextIndex n p = p + 1 := if_neg h.ne

theorem nextIndex_last (n : Nat) : nextIndex n n = 0 := if_pos rfl

theorem prevIndex_succ (n p : Nat) : prevIndex n (p + 1) = p := if_neg p.succ_ne_zero

theorem prevIndex_zero (n : Nat) : prevIndex n 0 = n := if_pos rfl

theorem nextIndex_ne {n : Nat} (hn : 1 ≤ n) (p : Nat) : nextIndex n p ≠ p := by
  unfold nextIndex
  split <;> omega

theorem prevIndex_ne {n : Nat} (hn : 1 ≤ n) (p : Nat) : prevIndex n p ≠ p := by
  unfold prevIndex
  split <;> omega

/-- MX for word `p` of the array, with the words beside it. -/
def mixAt (k : WordFile) (n : Nat) (sum : Word) (v : List Word) (p : Nat) : Word :=
  mx sum (wordAt v (nextIndex n p)) (wordAt v (prevIndex n p)) p (selector sum) k

/-- What encryption does to word `p`. -/
def addMix (k : WordFile) (n : Nat) (sum : Word) (v : List Word) (p : Nat) : List Word :=
  v.set p (wordAt v p + mixAt k n sum v p)

/-- What decryption does to word `p`. -/
def subMix (k : WordFile) (n : Nat) (sum : Word) (v : List Word) (p : Nat) : List Word :=
  v.set p (wordAt v p - mixAt k n sum v p)

theorem mixAt_set_self {n : Nat} (hn : 1 ≤ n) (k : WordFile) (sum : Word) (v : List Word)
    (p : Nat) (x : Word) : mixAt k n sum (v.set p x) p = mixAt k n sum v p := by
  rw [mixAt, wordAt_set_of_ne (nextIndex_ne hn p), wordAt_set_of_ne (prevIndex_ne hn p), mixAt]

theorem addMix_length (k : WordFile) (n : Nat) (sum : Word) (v : List Word) (p : Nat) :
    (addMix k n sum v p).length = v.length := List.length_set

/-- Decryption finds the mixing value that encryption added. -/
theorem subMix_addMix {n p : Nat} {v : List Word} (hn : 1 ≤ n) (hp : p < v.length) (k : WordFile)
    (sum : Word) : subMix k n sum (addMix k n sum v p) p = v := by
  rw [subMix, addMix, wordAt_set_self hp, mixAt_set_self hn, BitVec.add_sub_cancel, List.set_set,
    set_wordAt_self hp]

/-! ### One round (R234, R235) -/

/-- The words after a round of encryption. -/
def encryptPass (k : WordFile) (n : Nat) (sum : Word) (v : List Word) : List Word :=
  (List.range (n + 1)).foldl (addMix k n sum) v

/-- The words after a round of decryption. -/
def decryptPass (k : WordFile) (n : Nat) (sum : Word) (v : List Word) : List Word :=
  (List.range (n + 1)).reverse.foldl (subMix k n sum) v

theorem foldl_length_of_step {f : List Word → Nat → List Word}
    (hf : ∀ v p, (f v p).length = v.length) (l : List Nat) (v : List Word) :
    (l.foldl f v).length = v.length := by
  induction l generalizing v with
  | nil => rfl
  | cons p l ih => rw [List.foldl_cons, ih, hf]

theorem foldl_addMix_length (k : WordFile) (n : Nat) (sum : Word) (l : List Nat) (v : List Word) :
    (l.foldl (addMix k n sum) v).length = v.length :=
  foldl_length_of_step (fun _ _ => List.length_set) l v

theorem foldl_subMix_length (k : WordFile) (n : Nat) (sum : Word) (l : List Nat) (v : List Word) :
    (l.foldl (subMix k n sum) v).length = v.length :=
  foldl_length_of_step (fun _ _ => List.length_set) l v

theorem encryptPass_length (k : WordFile) (n : Nat) (sum : Word) (v : List Word) :
    (encryptPass k n sum v).length = v.length := foldl_addMix_length k n sum _ v

/-- The carried `z` is the word before the next one to mix. -/
theorem foldl_encryptStep (k : WordFile) {n m : Nat} (hm : m ≤ n) (sum : Word) (v : List Word)
    (hv : v.length = n + 1) :
    let u := (List.range m).foldl (addMix k n sum) v
    (List.range m).foldl (encryptStep k sum) (v, wordAt v n) = (u, wordAt u (prevIndex n m)) := by
  induction m with
  | zero => simp only [List.range_zero, List.foldl_nil, prevIndex_zero]
  | succ m ih =>
    have hlen : m < ((List.range m).foldl (addMix k n sum) v).length := by
      rw [foldl_addMix_length]
      omega
    simp only [List.range_succ, List.foldl_append, List.foldl_cons, List.foldl_nil, ih (by omega),
      prevIndex_succ, encryptStep, addMix, mixAt, nextIndex_of_lt (Nat.lt_of_succ_le hm),
      wordAt_set_self hlen]

theorem xxteaEncryptRound_eq (k : WordFile) {n : Nat} (sum : Word) {v : List Word}
    (hv : v.length = n + 1) :
    xxteaEncryptRound k n sum (v, wordAt v n) =
      (encryptPass k n sum v, wordAt (encryptPass k n sum v) n) := by
  have hlen : n < ((List.range n).foldl (addMix k n sum) v).length := by
    rw [foldl_addMix_length, hv]
    exact n.lt_succ_self
  simp only [xxteaEncryptRound, foldl_encryptStep k le_rfl sum v hv, encryptPass, List.range_succ,
    List.foldl_append, List.foldl_cons, List.foldl_nil, addMix, mixAt, nextIndex_last,
    wordAt_set_self hlen]

/-- The carried `y` is the word after the next one to mix. -/
theorem foldl_decryptStep (k : WordFile) {n m : Nat} (hm : m ≤ n) (sum : Word) (v : List Word)
    (hv : v.length = n + 1) :
    let u := ((List.range m).map (· + 1)).reverse.foldl (subMix k n sum) v
    ((List.range m).map (· + 1)).reverse.foldl (decryptStep k sum) (v, wordAt v (nextIndex n m)) =
      (u, wordAt u (nextIndex n 0)) := by
  induction m generalizing v with
  | zero => rfl
  | succ m ih =>
    have hstep : decryptStep k sum (v, wordAt v (nextIndex n (m + 1))) (m + 1) =
        (subMix k n sum v (m + 1), wordAt (subMix k n sum v (m + 1)) (nextIndex n m)) := by
      rw [nextIndex_of_lt (Nat.lt_of_succ_le hm), subMix, wordAt_set_self (by omega), mixAt,
        prevIndex_succ]
      rfl
    simp only [List.range_succ, List.map_append, List.map_cons, List.map_nil, List.reverse_append,
      List.reverse_cons, List.reverse_nil, List.nil_append, List.cons_append, List.foldl_cons,
      hstep]
    exact ih (by omega) _ (List.length_set.trans hv)

theorem xxteaDecryptRound_eq (k : WordFile) {n : Nat} (sum : Word) {v : List Word}
    (hv : v.length = n + 1) :
    xxteaDecryptRound k n sum (v, wordAt v 0) =
      (decryptPass k n sum v, wordAt (decryptPass k n sum v) 0) := by
  have hfold := foldl_decryptStep k le_rfl sum v hv
  have hlen : 0 < (((List.range n).map (· + 1)).reverse.foldl (subMix k n sum) v).length := by
    rw [foldl_subMix_length, hv]
    exact n.succ_pos
  rw [nextIndex_last] at hfold
  simp only [xxteaDecryptRound, hfold, decryptPass, List.range_succ_eq_map, List.reverse_cons,
    List.foldl_append, List.foldl_cons, List.foldl_nil, subMix, mixAt, prevIndex_zero,
    wordAt_set_self hlen]

/-- The words are unmixed in the reverse order, each beside the words it was mixed with. -/
theorem foldl_subMix_foldl_addMix {n : Nat} (hn : 1 ≤ n) (k : WordFile) (sum : Word)
    (l : List Nat) {v : List Word} (hl : ∀ p ∈ l, p < v.length) :
    l.reverse.foldl (subMix k n sum) (l.foldl (addMix k n sum) v) = v := by
  induction l generalizing v with
  | nil => rfl
  | cons p l ih =>
    have hrest : ∀ q ∈ l, q < (addMix k n sum v p).length := fun q hq =>
      (addMix_length k n sum v p).symm ▸ hl q (List.mem_cons_of_mem p hq)
    rw [List.foldl_cons, List.reverse_cons, List.foldl_append, ih hrest]
    exact subMix_addMix hn (hl p List.mem_cons_self) k sum

theorem decryptPass_encryptPass {n : Nat} (hn : 1 ≤ n) (k : WordFile) (sum : Word) {v : List Word}
    (hv : v.length = n + 1) : decryptPass k n sum (encryptPass k n sum v) = v :=
  foldl_subMix_foldl_addMix hn k sum _ fun _ hp => hv ▸ List.mem_range.mp hp

/-! ### The sums (R230, R236) -/

/-- DELTA is odd, so it has an inverse modulo 2^32. -/
def deltaInverse : Word := 0x144CBC89

theorem delta_mul_deltaInverse : delta * deltaInverse = 1 := by decide

theorem ofNat_mul_delta_ne_zero {j : Nat} (hpos : 1 ≤ j) (hlt : j < 2 ^ 32) :
    BitVec.ofNat 32 j * delta ≠ 0 := by
  intro h0
  have hj : BitVec.ofNat 32 j = 0 := by
    calc BitVec.ofNat 32 j
      _ = BitVec.ofNat 32 j * delta * deltaInverse := by
        rw [mul_assoc, delta_mul_deltaInverse, mul_one]
      _ = 0 := by rw [h0, zero_mul]
  have hmod : j % 2 ^ 32 = 0 := congrArg BitVec.toNat hj
  omega

theorem ofNat_succ_mul_delta (q : Nat) :
    BitVec.ofNat 32 (q + 1) * delta = BitVec.ofNat 32 q * delta + delta := by
  rw [BitVec.ofNat_add, add_mul]
  exact congrArg _ (one_mul delta)

/-! ### The loops (R234 to R236) -/

/-- The words after `q` rounds of encryption. -/
def encryptPasses (k : WordFile) (n : Nat) (v : List Word) : Nat → List Word
  | 0 => v
  | q + 1 => encryptPass k n (BitVec.ofNat 32 (q + 1) * delta) (encryptPasses k n v q)

theorem encryptPasses_length (k : WordFile) (n : Nat) (v : List Word) (q : Nat) :
    (encryptPasses k n v q).length = v.length := by
  induction q with
  | zero => rfl
  | succ q ih => rw [encryptPasses, encryptPass_length, ih]

/-- A further round at the end of the loop. -/
theorem encryptLoop_succ (k : WordFile) (n q : Nat) (sum : Word) (vz : List Word × Word) :
    encryptLoop k n (q + 1) sum vz =
      xxteaEncryptRound k n (sum + BitVec.ofNat 32 (q + 1) * delta) (encryptLoop k n q sum vz) := by
  induction q generalizing sum vz with
  | zero => rw [ofNat_succ_mul_delta]; simp [encryptLoop]
  | succ q ih =>
    rw [encryptLoop, ih, ofNat_succ_mul_delta (q + 1), BitVec.add_assoc, BitVec.add_comm delta]
    rfl

theorem encryptLoop_eq (k : WordFile) {n : Nat} {v : List Word} (hv : v.length = n + 1) (q : Nat) :
    encryptLoop k n q 0 (v, wordAt v n) =
      (encryptPasses k n v q, wordAt (encryptPasses k n v q) n) := by
  induction q with
  | zero => rfl
  | succ q ih =>
    have hlen : (encryptPasses k n v q).length = n + 1 := (encryptPasses_length k n v q).trans hv
    rw [encryptLoop_succ, ih, xxteaEncryptRound_eq k _ hlen, zero_add]
    rfl

/-- Each pass of the decryption loop undoes the last round. -/
theorem decryptLoop_encryptPasses {n : Nat} (hn : 1 ≤ n) (k : WordFile) {v : List Word}
    (hv : v.length = n + 1) {q : Nat} (hq : q < 2 ^ 32) :
    decryptLoop k n q (BitVec.ofNat 32 q * delta)
      (encryptPasses k n v q, wordAt (encryptPasses k n v q) 0) = (v, wordAt v 0) := by
  induction q with
  | zero => rfl
  | succ q ih =>
    have hlen : (encryptPasses k n v q).length = n + 1 := (encryptPasses_length k n v q).trans hv
    have hsum : BitVec.ofNat 32 (q + 1) * delta - delta = BitVec.ofNat 32 q * delta := by
      rw [ofNat_succ_mul_delta, BitVec.add_sub_cancel]
    rw [decryptLoop, if_neg (ofNat_mul_delta_ne_zero q.succ_pos hq), hsum, encryptPasses,
      xxteaDecryptRound_eq k _ ((encryptPass_length k n _ _).trans hlen),
      decryptPass_encryptPass hn k _ hlen]
    exact ih (Nat.lt_of_succ_lt hq)

/-- At most `q` passes are made from the sum `q·DELTA` on. -/
theorem decryptLoop_more (k : WordFile) (n q more : Nat) (vy : List Word × Word) :
    decryptLoop k n (q + more) (BitVec.ofNat 32 q * delta) vy =
      decryptLoop k n q (BitVec.ofNat 32 q * delta) vy := by
  induction q generalizing vy with
  | zero => cases more <;> simp [decryptLoop]
  | succ q ih =>
    rw [Nat.succ_add, decryptLoop, decryptLoop, ofNat_succ_mul_delta, BitVec.add_sub_cancel, ih]

theorem xxteaDecryptWords_xxteaEncryptWords (v : List Word) (k : WordFile) :
    xxteaDecryptWords (xxteaEncryptWords v k) k = v := by
  have hlen := xxteaEncryptWords_length v k
  by_cases hshort : v.length - 1 < 1
  · have hsame : xxteaEncryptWords v k = v := if_pos hshort
    rw [hsame]
    exact if_pos hshort
  · have hn : 1 ≤ v.length - 1 := Nat.le_of_not_lt hshort
    have hv : v.length = v.length - 1 + 1 := by omega
    have hq : rounds (v.length - 1 + 1) < 2 ^ 32 := rounds_lt (Nat.succ_le_succ hn)
    have henc : xxteaEncryptWords v k =
        encryptPasses k (v.length - 1) v (rounds (v.length - 1 + 1)) := by
      rw [xxteaEncryptWords, if_neg hshort, encryptLoop_eq k hv]
    rw [xxteaDecryptWords, hlen, if_neg hshort, henc, decryptLoop_encryptPasses hn k hv hq]

/-- Settles O43: no round's sum is 0, so the decryption loop meets all of them and no more. -/
theorem xxteaWordsRoundTrip : Obligations.XxteaWordsRoundTrip :=
  ⟨xxteaDecryptWords_xxteaEncryptWords,
    fun _ _ hn hpos hj => ofNat_mul_delta_ne_zero hpos (hj.trans_lt (rounds_lt hn)),
    fun k n more vy _ => decryptLoop_more k n (rounds (n + 1)) more vy⟩

end Sys2Proof.Machine
end

section
/-!
PROOFS. Byte marshalling (43_xxtea.md R237 to R241). A word array is given by its bytes, so each
marshalling function is described by the bytes of its result.
-/

namespace Sys2Proof.Machine

open Sys2Proof

/-! ### The bytes of a word array (20_memory.md R81) -/

theorem memByte_lane (v : List Word) (i : Nat) (t : Fin 4) :
    memByte v (4 * i + t.val) = (columnOfWord (v.getD i 0)).get t := by
  have hdiv : (4 * i + t.val) / 4 = i := by omega
  have hmod : Fin.ofNat 4 (4 * i + t.val) = t :=
    Fin.ext ((Nat.mul_add_mod 4 i t).trans (Nat.mod_eq_of_lt t.isLt))
  rw [memByte, hdiv, hmod]

theorem memByte_add_four (w : Word) (v : List Word) (j : Nat) :
    memByte (w :: v) (j + 4) = memByte v j := by
  have hmod : Fin.ofNat 4 (j + 4) = Fin.ofNat 4 j := Fin.ext (Nat.add_mod_right j 4)
  rw [memByte, Nat.add_div_right j (by decide), hmod]
  rfl

theorem memByte_nil (j : Nat) : memByte [] j = 0 := by
  rw [memByte, get_columnOfWord]
  exact BitVec.extractLsb'_zero

theorem memByte_append {u v : List Word} {j : Nat} (h : j < 4 * u.length) :
    memByte (u ++ v) j = memByte u j := by
  rw [memByte, List.getD_append _ _ _ _ (by omega), memByte]

theorem memByte_take {n j : Nat} (v : List Word) (h : j < 4 * n) :
    memByte (v.take n) j = memByte v j := by
  have hget : (v.take n).getD (j / 4) 0 = v.getD (j / 4) 0 := by
    rw [List.getD_eq_getElem?_getD, List.getElem?_take_of_lt (by omega),
      ← List.getD_eq_getElem?_getD]
  rw [memByte, hget, memByte]

theorem words_ext_memByte {u v : List Word} (hlen : u.length = v.length)
    (h : ∀ j < 4 * v.length, memByte u j = memByte v j) : u = v := by
  refine List.ext_getElem hlen fun i hu hv => ?_
  have hlane : ∀ t : Fin 4, (columnOfWord u[i]).get t = (columnOfWord v[i]).get t := fun t => by
    rw [← List.getD_eq_getElem u 0 hu, ← List.getD_eq_getElem v 0 hv, ← memByte_lane,
      ← memByte_lane]
    exact h _ (by omega)
  have hcol : columnOfWord u[i] = columnOfWord v[i] :=
    Quad.ext (hlane 0) (hlane 1) (hlane 2) (hlane 3)
  rw [← wordOfColumn_columnOfWord u[i], hcol, wordOfColumn_columnOfWord]

/-! ### Words to bytes (R238) -/

theorem bytesOfWords_length (v : List Word) : (bytesOfWords v).length = 4 * v.length := by
  induction v with
  | nil => rfl
  | cons w v ih =>
    rw [bytesOfWords, List.flatMap_cons, List.length_append, ← bytesOfWords, ih, List.length_cons,
      Nat.mul_succ, Nat.add_comm]
    rfl

theorem getD_bytesOfWords (v : List Word) (j : Nat) : (bytesOfWords v).getD j 0 = memByte v j := by
  induction v generalizing j with
  | nil => exact (memByte_nil j).symm
  | cons w v ih =>
    match j with
    | 0 | 1 | 2 | 3 => rfl
    | j + 4 => exact (ih j).trans (memByte_add_four w v j).symm

theorem take_bytesOfWords (v : List Word) (n : Nat) :
    (bytesOfWords v).take (4 * n) = bytesOfWords (v.take n) := by
  induction v generalizing n with
  | nil => simp [bytesOfWords]
  | cons w v ih =>
    cases n with
    | zero => rfl
    | succ n => exact congrArg ((columnOfWord w).toList ++ ·) (ih n)

/-- Byte `j` of the first `b` bytes of a word array, zero-filled past its end. -/
theorem getD_take_bytesOfWords (v : List Word) (b j : Nat) :
    ((bytesOfWords v).take b).getD j 0 = if j < b then memByte v j else 0 := by
  rw [← getD_bytesOfWords, List.getD_eq_getElem?_getD, List.getElem?_take]
  split
  · rw [List.getD_eq_getElem?_getD]
  · rfl

/-! ### Bytes to words (R237) -/

theorem wordsOfBytes_length (d : List Byte) (n : Nat) : (wordsOfBytes d n).length = n := by
  rw [wordsOfBytes, List.length_map, List.length_range]

theorem memByte_wordsOfBytes {n j : Nat} (d : List Byte) (h : j < 4 * n) :
    memByte (wordsOfBytes d n) j = d.getD j 0 := by
  have hword : (wordsOfBytes d n).getD (j / 4) 0 = wordOfBytes d (j / 4) := by
    rw [List.getD_eq_getElem _ _ (by rw [wordsOfBytes_length]; omega)]
    simp only [wordsOfBytes, List.getElem_map, List.getElem_range]
  rw [memByte, hword, wordOfBytes, columnOfWord_wordOfColumn, quad_get_build]
  exact congrArg (d.getD · 0) (Nat.div_add_mod j 4)

theorem le_four_mul_wordsFor (n : Nat) : n ≤ 4 * wordsFor n := by
  rw [wordsFor]
  omega

theorem wordsFor_four_mul (n : Nat) : wordsFor (4 * n) = n := by
  rw [wordsFor]
  omega

theorem toWords_false_length (d : List Byte) : (toWords d false).length = wordsFor d.length :=
  wordsOfBytes_length d _

theorem toWords_true (d : List Byte) :
    toWords d true = toWords d false ++ [BitVec.ofNat 32 d.length] := rfl

theorem toWords_true_length (d : List Byte) : (toWords d true).length = wordsFor d.length + 1 := by
  rw [toWords_true, List.length_append, toWords_false_length]
  rfl

theorem toWords_bytesOfWords (v : List Word) : toWords (bytesOfWords v) false = v := by
  have hlen : (toWords (bytesOfWords v) false).length = v.length := by
    rw [toWords_false_length, bytesOfWords_length, wordsFor_four_mul]
  refine words_ext_memByte hlen fun j hj => ?_
  rw [← getD_bytesOfWords v]
  exact memByte_wordsOfBytes _ (by rwa [← toWords_false_length, hlen])

/-! ### The length header (R237, R238) -/

theorem storedLength_toWords {d : List Byte} (h : d.length < 2 ^ 32) :
    storedLength (toWords d true) = d.length := by
  have hlast :
      wordAt (toWords d true) ((toWords d true).length - 1) = BitVec.ofNat 32 d.length := by
    rw [toWords_true_length, Nat.add_sub_cancel, wordAt, toWords_true, ← toWords_false_length,
      List.getD_append_right _ _ _ _ le_rfl, Nat.sub_self]
    rfl
  rw [storedLength, hlast]
  exact Nat.mod_eq_of_lt h

/-- The bytes past the data are the zero fill and the header. -/
theorem take_bytesOfWords_toWords (d : List Byte) :
    (bytesOfWords (toWords d true)).take d.length = d := by
  have hcap := le_four_mul_wordsFor d.length
  refine List.ext_getElem ?_ fun j hj hd => ?_
  · rw [List.length_take, bytesOfWords_length, toWords_true_length]
    omega
  · have hin : j < 4 * wordsFor d.length := hd.trans_le hcap
    rw [← List.getD_eq_getElem _ 0 hj, getD_take_bytesOfWords, if_pos hd, toWords_true,
      memByte_append (by rwa [toWords_false_length]), ← List.getD_eq_getElem d 0 hd]
    exact memByte_wordsOfBytes d hin

theorem toBytes_toWords {d : List Byte} (h : d.length < 2 ^ 32) :
    toBytes (toWords d true) true = some d := by
  have hfits : ¬4 * (toWords d true).length < d.length := by
    rw [toWords_true_length]
    have hcap := le_four_mul_wordsFor d.length
    omega
  rw [toBytes, if_pos rfl, storedLength_toWords h, if_neg hfits, take_bytesOfWords_toWords]

/-! ### The byte functions (R240, R241) -/

theorem encryptBytes_of_pos {d : List Byte} (h : 1 ≤ d.length) (kb : List Byte) :
    encryptBytes d kb = bytesOfWords (xxteaEncryptWords (toWords d true) (xkeyOf kb)) :=
  if_neg (Nat.ne_of_gt h)

theorem encryptBytes_length {d : List Byte} (h : 1 ≤ d.length) (kb : List Byte) :
    (encryptBytes d kb).length = 4 * (wordsFor d.length + 1) := by
  rw [encryptBytes_of_pos h, bytesOfWords_length, xxteaEncryptWords_length, toWords_true_length]

/-- The words of the ciphertext decrypt to the data words and the header. -/
theorem xxteaDecryptWords_encryptBytes {d : List Byte} (h : 1 ≤ d.length) (kb : List Byte) :
    xxteaDecryptWords (toWords (encryptBytes d kb) false) (xkeyOf kb) = toWords d true := by
  rw [encryptBytes_of_pos h, toWords_bytesOfWords, xxteaDecryptWords_xxteaEncryptWords]

/-- Settles O44: the header that decryption finds is the length that encryption stored. -/
theorem xxteaBytesRoundTrip : Obligations.XxteaBytesRoundTrip := by
  intro d kb hlt
  rcases Nat.eq_zero_or_pos d.length with h0 | hpos
  · have hsame : encryptBytes d kb = d := if_pos h0
    rw [hsame]
    exact if_pos h0
  · have hne : (encryptBytes d kb).length ≠ 0 := by
      rw [encryptBytes_length hpos]
      omega
    rw [decryptBytes, if_neg hne, xxteaDecryptWords_encryptBytes hpos, toBytes_toWords hlt]

end Sys2Proof.Machine
end

section
/-!
PROOFS. The XXTEA commands (43_xxtea.md R242 to R248). Each puts the words of the source's function
into the first words of DBUF and leaves the others; the words it starts from are those of the
buffer's first bytes, so XXTEA_DECB finds what XXTEA_ENCB has left.
-/

namespace Sys2Proof.Machine

open Sys2Proof

/-! ### The words XXTEA_ENCB and XXTEA_DECB start from (R243, R245) -/

theorem memByte_memSetByte {m : List Word} {i : Nat} (hi : i < 4 * m.length) (b : Byte) (j : Nat) :
    memByte (memSetByte m i b) j = if j = i then b else memByte m j := by
  by_cases hword : j / 4 = i / 4
  · have hlane : Fin.ofNat 4 j = Fin.ofNat 4 i ↔ j = i := by
      rw [Fin.ext_iff, Fin.val_ofNat, Fin.val_ofNat]
      omega
    have hset := wordAt_set_self (v := m) (p := i / 4) (by omega)
      (wordOfColumn ((columnOfWord (m.getD (i / 4) 0)).set (Fin.ofNat 4 i) b))
    rw [wordAt] at hset
    rw [memByte, memSetByte, hword, hset, columnOfWord_wordOfColumn, quad_get_set, memByte, hword]
    simp only [hlane]
  · have hne : j ≠ i := fun h => hword (congrArg (· / 4) h)
    rw [if_neg hne, memByte, memSetByte, ← wordAt, wordAt_set_of_ne hword, wordAt, memByte]

/-- Zeros in the `n` bytes from byte `b` on. -/
def zeroBytes (m : List Word) (b n : Nat) : List Word :=
  (List.range n).foldl (fun m t => memSetByte m (b + t) 0x00) m

theorem zeroFill_eq (m : List Word) (b w : Nat) : zeroFill m b w = zeroBytes m b (4 * w - b) := rfl

theorem zeroBytes_succ (m : List Word) (b n : Nat) :
    zeroBytes m b (n + 1) = memSetByte (zeroBytes m b n) (b + n) 0x00 := by
  rw [zeroBytes, List.range_succ, List.foldl_append]
  rfl

theorem zeroBytes_length (m : List Word) (b n : Nat) : (zeroBytes m b n).length = m.length :=
  foldl_length_of_step (fun m t => memSetByte_length m (b + t) 0x00) (List.range n) m

theorem memByte_zeroBytes {m : List Word} {b n : Nat} (h : b + n ≤ 4 * m.length) (j : Nat) :
    memByte (zeroBytes m b n) j = if b ≤ j ∧ j < b + n then 0 else memByte m j := by
  induction n with
  | zero => exact (if_neg (by omega)).symm
  | succ n ih =>
    rw [zeroBytes_succ, memByte_memSetByte (by rw [zeroBytes_length]; omega), ih (by omega)]
    by_cases hj : j = b + n
    · rw [if_pos hj, if_pos (by omega)]
    · have hsame : b ≤ j ∧ j < b + (n + 1) ↔ b ≤ j ∧ j < b + n := by omega
      simp only [if_neg hj, hsame]

theorem memByte_zeroFill {m : List Word} {b w : Nat} (hb : b ≤ 4 * w) (hw : w ≤ m.length)
    (j : Nat) : memByte (zeroFill m b w) j = if b ≤ j ∧ j < 4 * w then 0 else memByte m j := by
  rw [zeroFill_eq, memByte_zeroBytes (by omega), Nat.add_sub_cancel' hb]

theorem length_take_bytesOfWords {m : List Word} {b : Nat} (h : wordsFor b ≤ m.length) :
    ((bytesOfWords m).take b).length = b := by
  have hb := le_four_mul_wordsFor b
  rw [List.length_take, bytesOfWords_length]
  omega

/-- The bytes of DBUF after the first `b` do not matter. -/
theorem decbInput_eq_toWords {m : List Word} {b : Nat} (h : wordsFor b ≤ m.length) :
    decbInput m b = toWords ((bytesOfWords m).take b) false := by
  have hlen : (toWords ((bytesOfWords m).take b) false).length = wordsFor b := by
    rw [toWords_false_length, length_take_bytesOfWords h]
  refine words_ext_memByte ((decbInput_length m b h).trans hlen.symm) fun j hj => ?_
  rw [hlen] at hj
  have hbyte : memByte (toWords ((bytesOfWords m).take b) false) j =
      if j < b then memByte m j else 0 := by
    rw [← getD_take_bytesOfWords]
    exact memByte_wordsOfBytes _ (by rwa [length_take_bytesOfWords h])
  rw [hbyte, decbInput, memByte_take _ hj, memByte_zeroFill (le_four_mul_wordsFor b) h]
  by_cases hjb : j < b
  · rw [if_pos hjb, if_neg fun hfill => absurd hjb (Nat.not_lt.mpr hfill.1)]
  · rw [if_neg hjb, if_pos ⟨Nat.le_of_not_lt hjb, hj⟩]

theorem encbInput_eq_toWords {m : List Word} {b : Nat} (h : wordsFor b ≤ m.length) :
    encbInput m b = toWords ((bytesOfWords m).take b) true := by
  rw [toWords_true, length_take_bytesOfWords h, ← decbInput_eq_toWords h]
  rfl

/-! ### The result in DBUF (10_state.md R40, R50) -/

section

variable {s : State} {v : List Word}

/-- The words of the result. -/
theorem readReg_putBuffer_of_lt {i : Nat} (hi : i < v.length) (out : Nat) (c : ErrCode) :
    readReg ((s.putBuffer v out).commit c) (.dbuf i) = wordAt v i :=
  List.getD_append v (s.dbuf.drop v.length) 0 i hi

/-- The words past the result. -/
theorem readReg_putBuffer_of_le {n i : Nat} (hv : v.length = n) (hi : n ≤ i) (out : Nat)
    (c : ErrCode) :
    readReg ((s.putBuffer v out).commit c) (.dbuf i) = readReg s (.dbuf i) := by
  subst hv
  calc (v ++ s.dbuf.drop v.length).getD i 0
    _ = (s.dbuf.drop v.length).getD (i - v.length) 0 := List.getD_append_right _ _ _ _ hi
    _ = s.dbuf.getD i 0 := by
      rw [List.getD_eq_getElem?_getD, List.getElem?_drop, Nat.add_sub_cancel' hi,
        List.getD_eq_getElem?_getD]

theorem take_putBuffer {n : Nat} (hv : v.length = n) (out : Nat) (c : ErrCode) :
    ((s.putBuffer v out).commit c).dbuf.take n = v := by
  rw [State.commit_dbuf, State.putBuffer_dbuf, ← hv, List.take_left]

theorem putBuffer_commit_xw {n : Nat} (hv : v.length = n) (hn : n ≤ s.xw) (out : Nat)
    (c : ErrCode) : ((s.putBuffer v out).commit c).xw = s.xw := by
  rw [commit_xw, putBuffer_xw v out s (hv ▸ hn)]

/-- What a command leaves that succeeds with the words `v`. -/
theorem putBuffer_success {n : Nat} (hv : v.length = n) (hn : n ≤ s.xw) (out : Nat) :
    let t := (s.putBuffer v out).commit .ok
    t = successReport { s with dbuf := t.dbuf, outlen := BitVec.ofNat 32 out } ∧
      t.xw = s.xw ∧ t.dbuf.take n = v ∧
      ∀ i, n ≤ i → readReg t (.dbuf i) = readReg s (.dbuf i) :=
  ⟨rfl, putBuffer_commit_xw hv hn out .ok, take_putBuffer hv out .ok,
    fun _ hi => readReg_putBuffer_of_le hv hi out .ok⟩

end

/-! ### The key check (R246) -/

theorem exec_xxteaEncw (s : State) : exec .xxteaEncw s = execXxteaEncw s := rfl
theorem exec_xxteaEncb (s : State) : exec .xxteaEncb s = execXxteaEncb s := rfl
theorem exec_xxteaDecw (s : State) : exec .xxteaDecw s = execXxteaDecw s := rfl
theorem exec_xxteaDecb (s : State) : exec .xxteaDecb s = execXxteaDecb s := rfl

section

variable {s : State}

theorem exec_xxteaCommand_of_no_key {i : Instr} (hi : xxteaCommand i = true)
    (hk : s.xkv = false) : exec i s = .next (errorReport .invalidKey s) := by
  cases i with
  | xxteaEncw => rw [exec_xxteaEncw, execXxteaEncw, hk]; rfl
  | xxteaEncb => rw [exec_xxteaEncb, execXxteaEncb, hk]; rfl
  | xxteaDecw => rw [exec_xxteaDecw, execXxteaDecw, hk]; rfl
  | xxteaDecb => rw [exec_xxteaDecb, execXxteaDecb, hk]; rfl
  | nop | aesEnc | aesDec | cbcStart _ | cbcBlock | cmacSubkeys | cmacStart | cmacBlock | abort
  | sreset => nomatch hi

theorem not_key_missing (hk : s.xkv = true) : ¬(!s.xkv) = true := by
  rw [hk]
  nofun

end

/-! ### XXTEA_ENCW and XXTEA_DECW (R242, R244) -/

/-- The command of a raw word transform. -/
def wordCommand : Direction → Instr
  | .encrypt => .xxteaEncw
  | .decrypt => .xxteaDecw

/-- The source's function of a raw word transform. -/
def wordTransform : Direction → List Word → WordFile → List Word
  | .encrypt => xxteaEncryptWords
  | .decrypt => xxteaDecryptWords

theorem wordTransform_length (d : Direction) (v : List Word) (k : WordFile) :
    (wordTransform d v k).length = v.length :=
  match d with
  | .encrypt => xxteaEncryptWords_length v k
  | .decrypt => xxteaDecryptWords_length v k

theorem exec_wordCommand (d : Direction) (s : State) :
    exec (wordCommand d) s = .next
      (if !s.xkv then s.raise .invalidKey
      else if s.xw < s.lenNat then s.raise .lengthOverflow
      else (s.putBuffer (wordTransform d (s.dbuf.take s.lenNat) s.xkey)
        (4 * s.lenNat)).succeed) := by
  cases d <;> rfl

section

variable {s : State} (d : Direction)

theorem exec_wordCommand_of_overflow (hk : s.xkv = true) (hl : s.xw < s.len.toNat) :
    exec (wordCommand d) s = .next (errorReport .lengthOverflow s) := by
  rw [exec_wordCommand, if_neg (not_key_missing hk), s.lenNat_eq, if_pos hl]
  rfl

theorem exec_wordCommand_of_fits (hk : s.xkv = true) (hl : s.len.toNat ≤ s.xw) :
    exec (wordCommand d) s = .next ((s.putBuffer
      (wordTransform d (s.dbuf.take s.len.toNat) s.xkey) (4 * s.len.toNat)).commit .ok) := by
  rw [exec_wordCommand, if_neg (not_key_missing hk), s.lenNat_eq, if_neg (Nat.not_lt.mpr hl)]
  rfl

theorem wordTransform_take_length (hl : s.len.toNat ≤ s.xw) :
    (wordTransform d (s.dbuf.take s.len.toNat) s.xkey).length = s.len.toNat := by
  rw [wordTransform_length, List.length_take_of_le hl]

end

theorem xxteaEncryptWords_of_short {v : List Word} (h : v.length ≤ 1) (k : WordFile) :
    xxteaEncryptWords v k = v :=
  if_pos (by omega)

/-- Settles O45: the words are the command's encoding and the illegal ones with a reserved bit; the
checks in the order of R242. -/
theorem xxteaEncwResult : Obligations.XxteaEncwResult := by
  refine ⟨decode_encode .xxteaEncw, onlyModifierWords_of_opcode 0x08, fun s =>
    ⟨exec_xxteaCommand_of_no_key rfl, exec_wordCommand_of_overflow .encrypt, fun hk hl => ?_⟩⟩
  have hv := wordTransform_take_length .encrypt hl
  obtain ⟨hreport, hxw, htake, hrest⟩ := putBuffer_success hv hl (4 * s.len.toNat)
  refine ⟨_, exec_wordCommand_of_fits .encrypt hk hl, hreport, hxw, htake, hrest, fun h1 => ?_⟩
  rw [State.commit_dbuf, State.putBuffer_dbuf, hv, wordTransform,
    xxteaEncryptWords_of_short ((List.length_take_le _ _).trans h1), List.take_append_drop]

/-- Settles O47: as for XXTEA_ENCW. -/
theorem xxteaDecwResult : Obligations.XxteaDecwResult :=
  ⟨decode_encode .xxteaDecw, onlyModifierWords_of_opcode 0x09, fun _ =>
    ⟨exec_xxteaCommand_of_no_key rfl, exec_wordCommand_of_overflow .decrypt, fun hk hl =>
      ⟨_, exec_wordCommand_of_fits .decrypt hk hl,
        putBuffer_success (wordTransform_take_length .decrypt hl) hl _⟩⟩⟩

/-! ### XXTEA_ENCB (R243) -/

section

variable {s : State}

theorem exec_xxteaEncb_of_empty (hk : s.xkv = true) (h0 : s.len.toNat = 0) :
    exec .xxteaEncb s = .next (successReport { s with outlen := 0 }) := by
  rw [exec_xxteaEncb, execXxteaEncb, if_neg (not_key_missing hk), s.lenNat_eq, if_pos h0]
  rfl

theorem exec_xxteaEncb_of_overflow (hk : s.xkv = true) (h0 : s.len.toNat ≠ 0)
    (hl : s.xw < wordsFor s.len.toNat + 1) :
    exec .xxteaEncb s = .next (errorReport .lengthOverflow s) := by
  rw [exec_xxteaEncb, execXxteaEncb, if_neg (not_key_missing hk), s.lenNat_eq, if_neg h0, if_pos hl]
  rfl

theorem exec_xxteaEncb_of_fits (hk : s.xkv = true) (h0 : s.len.toNat ≠ 0)
    (hl : wordsFor s.len.toNat + 1 ≤ s.xw) :
    exec .xxteaEncb s = .next ((s.putBuffer
      (xxteaEncryptWords (toWords ((bytesOfWords s.dbuf).take s.len.toNat) true) s.xkey)
      (4 * (wordsFor s.len.toNat + 1))).commit .ok) := by
  rw [exec_xxteaEncb, execXxteaEncb, if_neg (not_key_missing hk), s.lenNat_eq, if_neg h0,
    if_neg (Nat.not_lt.mpr hl), encbInput_eq_toWords (Nat.le_of_succ_le hl)]
  rfl

end

/-- Settles O46: the word is the command's encoding; the checks in the order of R243. -/
theorem xxteaEncbResult : Obligations.XxteaEncbResult := by
  refine ⟨decode_encode .xxteaEncb, onlyModifierWords_of_opcode 0x08, fun s =>
    ⟨exec_xxteaCommand_of_no_key rfl, exec_xxteaEncb_of_empty, exec_xxteaEncb_of_overflow,
      fun hk h0 hl => ⟨_, exec_xxteaEncb_of_fits hk h0 hl, putBuffer_success ?_ hl _⟩⟩⟩
  rw [xxteaEncryptWords_length, toWords_true_length,
    length_take_bytesOfWords (Nat.le_of_succ_le hl)]
  rfl

/-! ### XXTEA_DECB (R245) -/

section

variable {s : State}

theorem decbWords_eq (hl : wordsFor s.len.toNat ≤ s.xw) :
    s.decbWords =
      xxteaDecryptWords (toWords ((bytesOfWords s.dbuf).take s.len.toNat) false) s.xkey :=
  congrArg (xxteaDecryptWords · s.xkey) (decbInput_eq_toWords hl)

theorem decbWords_length (hl : wordsFor s.len.toNat ≤ s.xw) :
    s.decbWords.length = wordsFor s.len.toNat := by
  rw [xxteaDecryptWords_length, s.lenNat_eq, decbInput_length _ _ hl]

theorem exec_xxteaDecb_of_empty (hk : s.xkv = true) (h0 : s.len.toNat = 0) :
    exec .xxteaDecb s = .next (successReport { s with outlen := 0 }) := by
  rw [exec_xxteaDecb, execXxteaDecb, if_neg (not_key_missing hk), s.lenNat_eq, if_pos h0]
  rfl

theorem exec_xxteaDecb_of_overflow (hk : s.xkv = true) (h0 : s.len.toNat ≠ 0)
    (hl : s.xw < wordsFor s.len.toNat) :
    exec .xxteaDecb s = .next (errorReport .lengthOverflow s) := by
  rw [exec_xxteaDecb, execXxteaDecb, if_neg (not_key_missing hk), s.lenNat_eq, if_neg h0, if_pos hl]
  rfl

theorem exec_xxteaDecb_of_corrupted (hk : s.xkv = true) (h0 : s.len.toNat ≠ 0)
    (hl : wordsFor s.len.toNat ≤ s.xw)
    (hc : 4 * wordsFor s.len.toNat < storedLength s.decbWords) :
    exec .xxteaDecb s = .next ((s.putBuffer (List.replicate (wordsFor s.len.toNat) 0) 0).commit
      .corruptedCiphertext) := by
  rw [exec_xxteaDecb, execXxteaDecb, if_neg (not_key_missing hk), s.lenNat_eq, if_neg h0,
    if_neg (Nat.not_lt.mpr hl)]
  exact congrArg _ (if_pos hc)

theorem exec_xxteaDecb_of_fits (hk : s.xkv = true) (h0 : s.len.toNat ≠ 0)
    (hl : wordsFor s.len.toNat ≤ s.xw)
    (hc : storedLength s.decbWords ≤ 4 * wordsFor s.len.toNat) :
    exec .xxteaDecb s =
      .next ((s.putBuffer s.decbWords (storedLength s.decbWords)).commit .ok) := by
  rw [exec_xxteaDecb, execXxteaDecb, if_neg (not_key_missing hk), s.lenNat_eq, if_neg h0,
    if_neg (Nat.not_lt.mpr hl)]
  exact congrArg _ (if_neg (Nat.not_lt.mpr hc))

end

/-- Settles O48: the word is the command's encoding; the checks in the order of R245. -/
theorem xxteaDecbResult : Obligations.XxteaDecbResult := by
  refine ⟨decode_encode .xxteaDecb, onlyModifierWords_of_opcode 0x09, fun s =>
    ⟨exec_xxteaCommand_of_no_key rfl, exec_xxteaDecb_of_empty, exec_xxteaDecb_of_overflow,
      fun hk h0 hl => ?_⟩⟩
  have hv := decbWords_length hl
  have hstored : storedLength s.decbWords =
      (s.decbWords.getD ((s.len.toNat + 3) / 4 - 1) 0).toNat := by
    rw [storedLength, hv]
    rfl
  rw [← decbWords_eq hl, ← hstored]
  rcases Nat.lt_or_ge (4 * wordsFor s.len.toNat) (storedLength s.decbWords) with hc | hc
  · have hzero : (List.replicate (wordsFor s.len.toNat) (0 : Word)).length =
        wordsFor s.len.toNat := List.length_replicate
    refine ⟨_, exec_xxteaDecb_of_corrupted hk h0 hl hc, putBuffer_commit_xw hzero hl _ _,
      fun i hi => readReg_putBuffer_of_le hzero hi _ _, fun _ => ⟨rfl, fun i hi => ?_⟩,
      fun hle => absurd hc (Nat.not_lt.mpr hle)⟩
    rw [readReg_putBuffer_of_lt (hzero.symm ▸ hi)]
    exact List.getD_replicate 0 hi
  · obtain ⟨hreport, hxw, htake, hrest⟩ := putBuffer_success hv hl (storedLength s.decbWords)
    exact ⟨_, exec_xxteaDecb_of_fits hk h0 hl hc, hxw, hrest,
      fun hlt => absurd hlt (Nat.not_lt.mpr hc), fun _ => ⟨hreport, htake⟩⟩

/-! ### The round trip (R248) -/

theorem take_bytesOfWords_append {u : List Word} {n : Nat} (h : n ≤ 4 * u.length)
    (v : List Word) : (bytesOfWords (u ++ v)).take n = (bytesOfWords u).take n := by
  rw [bytesOfWords, List.flatMap_append]
  exact List.take_append_of_le_length ((bytesOfWords_length u).symm ▸ h)

section

variable {s : State} {kb d : List Byte}

/-- XXTEA_ENCB on the data `d` leaves the ciphertext of `d` and the key. -/
theorem exec_xxteaEncb_of_data (hk : s.xkv = true) (hkey : s.xkey = xkeyOf kb)
    (hpos : 1 ≤ d.length) (hlen : s.len.toNat = d.length)
    (hd : (bytesOfWords s.dbuf).take d.length = d) (hl : wordsFor d.length + 1 ≤ s.xw)
    (hxw : s.xw ≤ 960) :
    ∃ t, exec .xxteaEncb s = .next t ∧ t.errcode = .ok ∧
      t.outlen.toNat = 4 * (wordsFor d.length + 1) ∧
      (bytesOfWords t.dbuf).take t.outlen.toNat = encryptBytes d kb ∧
      t.xw = s.xw ∧ t.xkv = true ∧ t.xkey = xkeyOf kb := by
  have hexec := exec_xxteaEncb_of_fits hk (by omega) (hlen.symm ▸ hl)
  rw [hlen, hd, hkey] at hexec
  have henc : (xxteaEncryptWords (toWords d true) (xkeyOf kb)).length = wordsFor d.length + 1 := by
    rw [xxteaEncryptWords_length, toWords_true_length]
  have hout : (BitVec.ofNat 32 (4 * (wordsFor d.length + 1))).toNat =
      4 * (wordsFor d.length + 1) := Nat.mod_eq_of_lt (by omega)
  refine ⟨_, hexec, rfl, hout, ?_, putBuffer_commit_xw henc hl _ _, hk, hkey⟩
  rw [State.commit_outlen, State.putBuffer_outlen, hout, take_bytesOfWords, take_putBuffer henc,
    encryptBytes_of_pos hpos]

/-- XXTEA_DECB on the ciphertext of `d` leaves `d`. -/
theorem exec_xxteaDecb_of_ciphertext (hk : s.xkv = true) (hkey : s.xkey = xkeyOf kb)
    (hpos : 1 ≤ d.length) (hlt : d.length < 2 ^ 32)
    (hlen : s.len.toNat = 4 * (wordsFor d.length + 1))
    (hd : (bytesOfWords s.dbuf).take s.len.toNat = encryptBytes d kb)
    (hl : wordsFor d.length + 1 ≤ s.xw) :
    ∃ u, exec .xxteaDecb s = .next u ∧ u.errcode = .ok ∧ u.outlen.toNat = d.length ∧
      (bytesOfWords u.dbuf).take u.outlen.toNat = d := by
  have hcap := le_four_mul_wordsFor d.length
  have hwords : wordsFor s.len.toNat = wordsFor d.length + 1 := by rw [hlen, wordsFor_four_mul]
  have hfits : wordsFor s.len.toNat ≤ s.xw := hwords ▸ hl
  have hdec : s.decbWords = toWords d true := by
    rw [decbWords_eq hfits, hd, hkey, xxteaDecryptWords_encryptBytes hpos]
  have hstored : storedLength s.decbWords = d.length := by rw [hdec, storedLength_toWords hlt]
  have hexec := exec_xxteaDecb_of_fits hk (by omega) hfits (by omega)
  rw [hstored, hdec] at hexec
  have hout : (BitVec.ofNat 32 d.length).toNat = d.length := Nat.mod_eq_of_lt hlt
  refine ⟨_, hexec, rfl, hout, ?_⟩
  rw [State.commit_outlen, State.putBuffer_outlen, hout, State.commit_dbuf, State.putBuffer_dbuf,
    take_bytesOfWords_append (by rw [toWords_true_length]; omega), take_bytesOfWords_toWords]

end

/-- Settles O49: XXTEA_DECB starts from the ciphertext that XXTEA_ENCB has left, with the same
key. -/
theorem xxteaCommandsRoundTrip : Obligations.XxteaCommandsRoundTrip := by
  intro s kb d hwf hk hkey hpos hcap hlen hd
  obtain ⟨hlo, hhi⟩ : 2 ≤ s.xw ∧ s.xw ≤ 960 := (xwLegal_iff s.xw).mp hwf
  have hl : wordsFor d.length + 1 ≤ s.xw := by
    rw [wordsFor]
    omega
  obtain ⟨t, henc, hterr, htout, hcipher, htxw, htk, htkey⟩ :=
    exec_xxteaEncb_of_data hk hkey hpos hlen hd hl hhi
  obtain ⟨u, hdec, huerr, huout, hplain⟩ :=
    exec_xxteaDecb_of_ciphertext (s := { t with len := t.outlen }) htk htkey hpos (by omega) htout
      hcipher (htxw.symm ▸ hl)
  exact ⟨t, u, henc, hcipher, hdec, huout, hplain, hterr, huerr⟩

end Sys2Proof.Machine
end

section
/-!
PROOFS. The control commands NOP and ABORT (44_control.md R280, R281). Neither has a check, so each
answers the success report in every state; what ABORT changes besides is the closing of the session.
-/

namespace Sys2Proof.Machine

open Sys2Proof

/-! ### The success report is the commit with code 0 (70_reset_and_hazards.md R345) -/

theorem commit_ok_eq_successReport (s : State) : s.commit .ok = successReport s := rfl

/-! ### The commands (R280, R281) -/

theorem exec_nop (s : State) : exec .nop s = .next (s.commit .ok) :=
  congrArg Host.Outcome.next (execNop_cases s _ rfl)

theorem exec_abort (s : State) : exec .abort s = .next (s.closeSession.commit .ok) :=
  congrArg Host.Outcome.next (execAbort_cases s _ rfl)

/-- Settles O50: the word is the command's encoding; the commit is all that NOP does. -/
theorem nopChangesOnlyTheReport : Obligations.NopChangesOnlyTheReport := by
  refine ⟨decode_encode .nop, onlyPlainWord_of_no_modifier (by decide), fun s => ?_⟩
  rw [exec_nop, commit_ok_eq_successReport]

/-- Settles O51: the word is the command's encoding; ABORT commits with the session closed. -/
theorem abortClosesTheSession : Obligations.AbortClosesTheSession := by
  refine ⟨decode_encode .abort, onlyPlainWord_of_no_modifier (by decide), fun s => ?_⟩
  rw [exec_abort, commit_ok_eq_successReport, State.closeSession, zeroBlock]

end Sys2Proof.Machine
end

section
/-!
PROOFS. Errors and the interrupt (60_exceptions.md). No step stops; a command commits with the code
of its first failing check, and a failing check leaves every field but the report as it was, the
zeroing of XXTEA_DECB apart (R304, R310, R311); no read answers a key (R319); `irq` is read off
STATUS and IRQEN (R315).
-/

namespace Sys2Proof.Machine

open Sys2Proof

/-! ### Every step answers a next state (R300) -/

/-- Every meaning is a next state: each check of a command chooses between two of them. -/
theorem exec_completes (i : Instr) (s : State) : ∃ t, exec i s = .next t := by
  cases i <;> exact ⟨_, rfl⟩

theorem runWord_completes (w : Word) (s : State) : ∃ t, runWord w s = .next t := by
  unfold runWord
  split
  · exact exec_completes _ s
  · exact ⟨_, rfl⟩

theorem engineTurn_completes (s : State) : ∃ t, engineTurn s = .next t := by
  unfold engineTurn
  split
  · split
    · exact ⟨_, rfl⟩
    · exact runWord_completes _ s
  · exact ⟨_, rfl⟩

theorem busWrite_completes (a : BitVec 10) (v : Word) (s : State) :
    ∃ t, busWrite a v s = .next t := by
  unfold busWrite
  split
  · split
    · exact exec_completes .sreset s
    · exact ⟨_, rfl⟩
  · exact ⟨_, rfl⟩

theorem runEvent_completes (e : Event) (s : State) : ∃ t, runEvent e s = .next t := by
  cases e with
  | busRead a => exact ⟨_, rfl⟩
  | busWrite a v => exact busWrite_completes a v s
  | engine => exact engineTurn_completes s
  | resetLow => exact ⟨_, rfl⟩
  | resetHigh => exact ⟨_, rfl⟩

/-- Settles O8: whatever the next event is, it answers. -/
theorem everyStepCompletes : Obligations.EveryStepCompletes := fun s =>
  runEvent_completes s.nextEvent s.takeEvent

/-! ### The checks, as the commands read them (R302, R303, R306, R308 to R310) -/

@[simp] theorem firstError_nil : firstError [] = .ok := rfl

@[simp] theorem firstError_cons_true (c : ErrCode) (rest : List (Bool × ErrCode)) :
    firstError ((true, c) :: rest) = c := rfl

@[simp] theorem firstError_cons_false (c : ErrCode) (rest : List (Bool × ErrCode)) :
    firstError ((false, c) :: rest) = firstError rest := rfl

theorem len_bne_zero (s : State) : (s.len != 0) = (s.lenNat != 0) :=
  Bool.eq_iff_iff.mpr (by rw [bne_iff_ne, bne_iff_ne, s.lenNat_eq, Ne, ← BitVec.toNat_inj]; rfl)

theorem checksOf_aesEnc (s : State) :
    checksOf s .aesEnc = [(!s.keyLengthOk, .invalidKeyLength)] := rfl

theorem checksOf_aesDec (s : State) :
    checksOf s .aesDec = [(!s.keyLengthOk, .invalidKeyLength)] := rfl

theorem checksOf_cbcStart (d : Direction) (s : State) :
    checksOf s (.cbcStart d) =
      [(s.sessionOpen, .sequence), (!s.keyLengthOk, .invalidKeyLength),
        (!s.blockSizeOk, .invalidBlockSize)] := by
  have hsize : (!s.blockSizeOk) = (s.len == 0 || s.len.toNat % 16 != 0) := by
    rw [State.blockSizeOk, ← len_bne_zero, Bool.not_and, s.lenNat_eq]
    simp [bne]
  rw [hsize]
  rfl

theorem checksOf_cmacSubkeys (s : State) :
    checksOf s .cmacSubkeys = [(!s.keyLengthOk, .invalidKeyLength)] := rfl

theorem checksOf_cmacStart (s : State) :
    checksOf s .cmacStart =
      [(s.sessionOpen, .sequence), (!s.keyLengthOk, .invalidKeyLength)] := rfl

theorem checksOf_xxteaEncw (s : State) :
    checksOf s .xxteaEncw =
      [(!s.xkv, .invalidKey), (decide (s.xw < s.lenNat), .lengthOverflow)] := rfl

theorem checksOf_xxteaDecw (s : State) :
    checksOf s .xxteaDecw =
      [(!s.xkv, .invalidKey), (decide (s.xw < s.lenNat), .lengthOverflow)] := rfl

theorem checksOf_xxteaEncb (s : State) :
    checksOf s .xxteaEncb =
      [(!s.xkv, .invalidKey),
        (s.lenNat != 0 && decide (s.xw < wordsFor s.lenNat + 1), .lengthOverflow)] := by
  rw [← len_bne_zero]
  rfl

theorem checksOf_xxteaDecb (s : State) :
    checksOf s .xxteaDecb =
      [(!s.xkv, .invalidKey), (decide (s.xw < wordsFor s.lenNat), .lengthOverflow),
        (s.lenNat != 0 && decide (4 * wordsFor s.lenNat < storedLength s.decbWords),
          .corruptedCiphertext)] := by
  rw [← len_bne_zero]
  rfl

/-! ### A command commits with the code of its first failing check (R304, R310, R311) -/

/-- How a command ends: no check fails and it commits its results; or the first check that fails is
reported on the state as it was; or XXTEA_DECB reports code 3 on the state it has zeroed. -/
inductive CommitsFirstError (i : Instr) (s : State) : State → Prop
  | success {u : State} (h : firstError (checksOf s i) = .ok) :
      CommitsFirstError i s (u.commit .ok)
  | failure {c : ErrCode} (h : firstError (checksOf s i) = c) : CommitsFirstError i s (s.commit c)
  | corrupted (hi : i = .xxteaDecb) (h : firstError (checksOf s i) = .corruptedCiphertext) :
      CommitsFirstError i s
        ((s.putBuffer (List.replicate (wordsFor s.lenNat) 0) 0).commit .corruptedCiphertext)

namespace CommitsFirstError

variable {i : Instr} {s t : State}

theorem of_exec (hi : i ≠ .sreset) (h : exec i s = .next t) : CommitsFirstError i s t := by
  cases i with
  | nop => obtain rfl := execNop_cases s t h; exact .success rfl
  | aesEnc =>
    obtain ⟨hk, rfl⟩ | ⟨hk, rfl⟩ := execAesEnc_cases s t h
    · exact .failure (by simp [checksOf_aesEnc, hk])
    · exact .success (by simp [checksOf_aesEnc, hk])
  | aesDec =>
    obtain ⟨hk, rfl⟩ | ⟨hk, rfl⟩ := execAesDec_cases s t h
    · exact .failure (by simp [checksOf_aesDec, hk])
    · exact .success (by simp [checksOf_aesDec, hk])
  | cbcStart d =>
    obtain ⟨ho, rfl⟩ | ⟨ho, hk, rfl⟩ | ⟨ho, hk, hb, rfl⟩ | ⟨ho, hk, hb, rfl⟩ :=
      execCbcStart_cases d s t h
    · exact .failure (by simp [checksOf_cbcStart, ho])
    · exact .failure (by simp [checksOf_cbcStart, ho, hk])
    · exact .failure (by simp [checksOf_cbcStart, ho, hk, hb])
    · exact .success (by simp [checksOf_cbcStart, ho, hk, hb])
  | cbcBlock =>
    obtain ⟨ha, rfl⟩ | ⟨ha, -, rfl⟩ | ⟨ha, -, rfl⟩ := execCbcBlock_cases s t h
    · exact .failure (by simp [checksOf, ha])
    · exact .success (by simp [checksOf, ha])
    · exact .success (by simp [checksOf, ha])
  | cmacSubkeys =>
    obtain ⟨hk, rfl⟩ | ⟨hk, rfl⟩ := execCmacSubkeys_cases s t h
    · exact .failure (by simp [checksOf_cmacSubkeys, hk])
    · exact .success (by simp [checksOf_cmacSubkeys, hk])
  | cmacStart =>
    obtain ⟨ho, rfl⟩ | ⟨ho, hk, rfl⟩ | ⟨ho, hk, rfl⟩ := execCmacStart_cases s t h
    · exact .failure (by simp [checksOf_cmacStart, ho])
    · exact .failure (by simp [checksOf_cmacStart, ho, hk])
    · exact .success (by simp [checksOf_cmacStart, ho, hk])
  | cmacBlock =>
    obtain ⟨ha, rfl⟩ | ⟨ha, -, rfl⟩ | ⟨ha, -, rfl⟩ := execCmacBlock_cases s t h
    · exact .failure (by simp [checksOf, ha])
    · exact .success (by simp [checksOf, ha])
    · exact .success (by simp [checksOf, ha])
  | xxteaEncw =>
    obtain ⟨hx, rfl⟩ | ⟨hx, hl, rfl⟩ | ⟨hx, hl, rfl⟩ := execXxteaEncw_cases s t h
    · exact .failure (by simp [checksOf_xxteaEncw, hx])
    · exact .failure (by simp [checksOf_xxteaEncw, hx, hl])
    · exact .success (by simp [checksOf_xxteaEncw, hx, hl.not_gt])
  | xxteaEncb =>
    obtain ⟨hx, rfl⟩ | ⟨hx, h0, rfl⟩ | ⟨hx, h0, hl, rfl⟩ | ⟨hx, h0, hl, rfl⟩ :=
      execXxteaEncb_cases s t h
    · exact .failure (by simp [checksOf_xxteaEncb, hx])
    · exact .success (by simp [checksOf_xxteaEncb, hx, h0])
    · exact .failure (by simp [checksOf_xxteaEncb, hx, bne_iff_ne.mpr h0, hl])
    · exact .success (by simp [checksOf_xxteaEncb, hx, hl.not_gt])
  | xxteaDecw =>
    obtain ⟨hx, rfl⟩ | ⟨hx, hl, rfl⟩ | ⟨hx, hl, rfl⟩ := execXxteaDecw_cases s t h
    · exact .failure (by simp [checksOf_xxteaDecw, hx])
    · exact .failure (by simp [checksOf_xxteaDecw, hx, hl])
    · exact .success (by simp [checksOf_xxteaDecw, hx, hl.not_gt])
  | xxteaDecb =>
    obtain ⟨hx, rfl⟩ | ⟨hx, h0, rfl⟩ | ⟨hx, -, hl, rfl⟩ | ⟨hx, h0, hl, hc, rfl⟩ |
      ⟨hx, -, hl, hc, rfl⟩ := execXxteaDecb_cases s t h
    · exact .failure (by simp [checksOf_xxteaDecb, hx])
    · exact .success (by simp [checksOf_xxteaDecb, hx, h0, wordsFor])
    · exact .failure (by simp [checksOf_xxteaDecb, hx, hl])
    · exact .corrupted rfl (by simp [checksOf_xxteaDecb, hx, bne_iff_ne.mpr h0, hl.not_gt, hc])
    · exact .success (by simp [checksOf_xxteaDecb, hx, hl.not_gt, hc.not_gt])
  | abort => obtain rfl := execAbort_cases s t h; exact .success rfl
  | sreset => exact absurd rfl hi

theorem errcode_eq (h : CommitsFirstError i s t) : t.errcode = firstError (checksOf s i) := by
  cases h with
  | success h | failure h | corrupted _ h => exact h.symm

end CommitsFirstError

/-- Settles O52: the command answers, and commits with that code. -/
theorem errorPriority : Obligations.ErrorPriority := by
  intro i s hi
  obtain ⟨t, ht⟩ := exec_completes i s
  exact ⟨t, ht, (CommitsFirstError.of_exec hi ht).errcode_eq⟩

/-- What DBUF reads after its first `n` words have been zeroed (R304). -/
theorem readReg_putBuffer_zeros (s : State) (n out : Nat) (c : ErrCode) (j : Nat) :
    readReg ((s.putBuffer (List.replicate n 0) out).commit c) (.dbuf j) =
      if j < n then 0 else readReg s (.dbuf j) := by
  have hlen : (List.replicate n (0 : Word)).length = n := List.length_replicate
  split
  next hj => rw [readReg_putBuffer_of_lt (hlen.symm ▸ hj)]; exact List.getD_replicate 0 hj
  next hj => exact readReg_putBuffer_of_le hlen (Nat.not_lt.mp hj) out c

/-- Settles O53: success and SRESET report no error, a failing check commits the state as it was, and
XXTEA_DECB has zeroed its words. -/
theorem errorChangesOnlyTheReport : Obligations.ErrorChangesOnlyTheReport := by
  intro i s t h herr
  obtain rfl | hi := eq_or_ne i .sreset
  · obtain rfl := execSreset_cases s t h
    exact absurd rfl herr
  · cases CommitsFirstError.of_exec hi h with
    | success _ => exact absurd rfl herr
    | failure _ => exact .inl (commit_eq_errorReport herr s)
    | corrupted hdecb _ =>
      exact .inr ⟨hdecb, rfl, rfl, readReg_putBuffer_zeros s (wordsFor s.lenNat) 0 _⟩

/-! ### The keys cannot be read (R319) -/

/-- What an address reads as is a function of the fields other than AKEY and XKEY: their own offsets
read 0. -/
theorem readReg_withKeys (s : State) (k x : WordFile) (r : Reg) :
    readReg { s with akey := k, xkey := x } r = readReg s r := by
  cases r <;> rfl

theorem busWord_withKeys (s : State) (k x : WordFile) (a : BitVec 10) :
    State.busWord { s with akey := k, xkey := x } a = s.busWord a :=
  congrArg (if s.rstN then · else 0) (readReg_withKeys s k x (s.regOf a))

/-- Settles O20: a read changes the ports only, and its word does not depend on the keys. -/
theorem keysCannotBeRead : Obligations.KeysCannotBeRead := by
  intro s k x a es he
  refine ⟨s.busWord a, step_busRead_withPorts he, ?_⟩
  rw [← busWord_withKeys s k x a]
  exact step_busRead_withPorts he

/-! ### The interrupt (R315) -/

theorem irq_iff (s : State) :
    s.irq = true ↔
      (s.done = true ∧ s.irqen.getLsbD 0 = true) ∨ (s.err = true ∧ s.irqen.getLsbD 1 = true) ∨
        (s.wdrop = true ∧ s.irqen.getLsbD 2 = true) := by
  simp only [State.irq, State.doneIe, State.errIe, State.wdropIe, Bool.or_eq_true,
    Bool.and_eq_true, or_assoc]

/-- IRQEN reads back its three enables in bits [2:0] (10_state.md R36). -/
theorem getLsbD_readReg_irqen (s : State) {i : Nat} (hi : i < 3) :
    (readReg s .irqen).getLsbD i = s.irqen.getLsbD i := by
  have hlt : i < 32 := by omega
  rw [readReg, BitVec.getLsbD_setWidth, decide_eq_true hlt, Bool.true_and]

/-- Settles O16: STATUS bits 1 to 3 are DONE, ERR and WDROP, and IRQEN bits 0 to 2 their enables. -/
theorem interruptIsEnabledStatus : Obligations.InterruptIsEnabledStatus := by
  intro s
  obtain ⟨hstatus, -⟩ := statusReadAndWriteOneToClear s
  have hdone : (readReg s .status).getLsbD 1 = s.done := hstatus 1
  have herr : (readReg s .status).getLsbD 2 = s.err := hstatus 2
  have hwdrop : (readReg s .status).getLsbD 3 = s.wdrop := hstatus 3
  rw [irq_iff, ← hdone, ← herr, ← hwdrop]
  simp (disch := decide) only [← getLsbD_readReg_irqen, Nat.exists_lt_succ_left, Nat.not_lt_zero,
    false_and, exists_false, or_false, Nat.zero_add, Nat.reduceAdd]

end Sys2Proof.Machine
end

section
/-!
PROOFS. Reset and hazards (70_reset_and_hazards.md). Both resets leave the stated values, and the
block held in reset ignores every access (R340, R341). Outside reset, CMD takes a word while no command
is pending (R344), the engine's turn runs the pending one (R345), and until then nothing changes an
operand or a result (R346, R348), so the command ends within the events still to come (R351); an open
session keeps its key (R347).
-/

namespace Sys2Proof.Machine

open Sys2Proof

/-! ### The reset values (R341) -/

/-- The reset state is what the reset effect leaves, as the first draw of DBUF. -/
theorem reset_eq_resetEffect :
    State.reset = ({ State.reset with draws := 0 } : State).resetEffect := by
  have hxw : State.reset.dbuf.length = Config.xw := drawMemory_length 0 Config.xw
  rw [State.resetEffect, State.xw_eq, hxw]
  rfl

theorem reset_atReset : State.reset.AtReset := reset_eq_resetEffect ▸ resetEffect_atReset _

/-- No row of the reset table reads the level of `rst_n`. -/
theorem holdReset_atReset (s : State) : s.holdReset.AtReset := { resetEffect_atReset s with }

/-- The fall of `rst_n` performs the reset effect, in reset and out of it. -/
theorem step_resetLow {s : State} {es : List Event} (he : s.events = .resetLow :: es) :
    step s = .next (s.withPorts es none).holdReset :=
  step_of_cons s _ es he

/-- Settles O1: State.reset and both resets are the reset effect, whose rows hold. -/
theorem resetLeavesTheStatedValues : Obligations.ResetLeavesTheStatedValues :=
  ⟨reset_atReset, fun s =>
    ⟨⟨s.resetEffect, rfl, resetEffect_atReset s, resetEffect_xw s⟩, fun es he =>
      ⟨(s.withPorts es none).holdReset, step_resetLow he, holdReset_atReset _,
        resetEffect_xw (s.withPorts es none), rfl, rfl⟩⟩⟩

/-- Settles O54: every clause is about a flag or a count that is 0 at reset, or about the buffer. -/
theorem resetMeetsTheInvariant : Obligations.ResetMeetsTheInvariant where
  bufferLegal := reset_wf
  oneSession := nofun
  blocksLeft := ⟨nofun, fun hne => absurd rfl hne⟩
  dirCleared _ := rfl
  sessionKey := nofun
  errReport := rfl
  noCipherFailure := nofun
  busyClears := nofun
  pendIsCmd := nofun
  subkeysValid := nofun
  cmacReady := nofun
  tagValid := nofun
  completeNoRest _ := rfl
  outlenFits := Nat.zero_le _
  heldInReset := nofun

/-! ### The block held in reset (R340) -/

theorem engineTurn_of_held {s : State} (hr : s.rstN = false) : engineTurn s = .next s :=
  if_neg (hr ▸ nofun)

theorem busWord_of_held {s : State} (hr : s.rstN = false) (a : BitVec 10) : s.busWord a = 0 :=
  if_neg (hr ▸ nofun)

/-- The reset state held has its flags clear. -/
theorem irq_of_held {s : State} (h : s.Inv) (hr : s.rstN = false) : s.irq = false := by
  rw [h.heldInReset hr]
  rfl

/-- Settles O2: one clause per event. -/
theorem heldInResetIgnoresAccesses : Obligations.HeldInResetIgnoresAccesses := by
  intro s e es he hr
  refine ⟨?busWrite, ?busRead, ?engine, ?resetHigh, ?resetLow, fun h => irq_of_held h hr⟩
  case busWrite =>
    rintro a v rfl
    exact step_busWrite_of_held (hr ▸ nofun) he
  case busRead =>
    rintro a rfl
    rw [step_busRead_withPorts he, busWord_of_held hr]
    rfl
  case engine =>
    rintro rfl
    exact (step_of_cons s _ es he).trans (engineTurn_of_held hr)
  case resetHigh =>
    rintro rfl
    exact step_of_cons s _ es he
  case resetLow =>
    rintro rfl
    exact ⟨_, step_resetLow he, rfl, rfl⟩

/-! ### Acceptance and commit (R344, R345) -/

theorem runWord_of_decode {w : Word} {i : Instr} (hd : decode w = .ok i) (s : State) :
    runWord w s = exec i s := by
  rw [runWord, hd]

theorem engineTurn_of_idle {s : State} (hr : s.rstN = true) (hp : s.pend = none) :
    engineTurn s = .next s := by
  rw [engineTurn, if_pos hr, hp]

theorem step_of_engine {s : State} (he : s.nextEvent = .engine) :
    step s = engineTurn s.takeEvent := by
  rw [step, he]
  rfl

/-- Settles O7: the engine's turn with and without a command pending, and SRESET at its write. -/
theorem stepRunsTheDecodedCommand : Obligations.StepRunsTheDecodedCommand := by
  refine fun s hr => ⟨fun w i he hp hd => ?_, fun he hp => ?_, fun es he => ?_⟩
  · rw [step_of_engine he, engineTurn_of_pending s.takeEvent w hr hp, runWord_of_decode hd]
    rfl
  · exact (step_of_engine he).trans (engineTurn_of_idle (s := s.takeEvent) hr hp)
  · exact step_busWrite_sreset hr he (regOf_zero s)

/-- Settles O9: CMD's drop condition is BUSY, and its write that takes effect is the acceptance. -/
theorem acceptanceOfACommand : Obligations.AcceptanceOfACommand := by
  intro s w es hr hw he
  obtain ⟨hdrop, haccept⟩ := step_busWrite_drop_or_effect (p := s.busy = true) hr he
    (regOf_zero s) (fun hs => hw hs.2) Iff.rfl
  exact ⟨fun hb => ⟨(s.accept w).withPorts es none, haccept (hb ▸ nofun), rfl, rfl⟩, hdrop⟩

/-! ### A command stays pending or ends (R346, R348, R351) -/

/-- A command has ended when it has run: by its commit, and SRESET by the reset effect. -/
theorem not_busy_of_exec {i : Instr} {s t : State} (h : exec i s = .next t) : t.busy = false := by
  obtain rfl | hi := eq_or_ne i .sreset
  · obtain rfl := execSreset_cases s t h
    rfl
  · cases CommitsFirstError.of_exec hi h <;> rfl

theorem not_busy_of_runWord {w : Word} {s t : State} (h : runWord w s = .next t) :
    t.busy = false := by
  obtain ⟨i, -, hi⟩ | ⟨-, -, rfl⟩ := runWord_cases w s t h
  · exact not_busy_of_exec hi
  · rfl

theorem not_busy_of_engineTurn {s t : State} (hr : s.rstN = true) (hb : s.busy = true)
    (h : engineTurn s = .next t) : t.busy = false := by
  obtain ⟨w, hp⟩ := Option.isSome_iff_exists.mp hb
  exact not_busy_of_runWord ((engineTurn_of_pending s w hr hp).symm.trans h)

/-- `t` is `s` but for the report in STATUS, IRQEN and the ports. -/
def State.DiffersInReport (s t : State) : Prop :=
  t = { s with
    done := t.done, err := t.err, errcode := t.errcode, wdrop := t.wdrop, irqen := t.irqen,
    rdata := t.rdata, events := t.events }

/-- While a command is pending the host's write changes the report or IRQEN, or is SRESET's. -/
theorem busWrite_of_busy {a : BitVec 10} {v : Word} {s t : State} (hb : s.busy = true)
    (h : busWrite a v s = .next t) :
    t.busy = false ∨ (s.DiffersInReport t ∧ t.events = s.events) := by
  obtain ⟨-, rfl⟩ | ⟨-, -, -, rfl⟩ | ⟨-, -, rfl⟩ := busWrite_cases a v s t h
  · exact .inr ⟨rfl, rfl⟩
  · exact .inl rfl
  · right
    obtain ⟨-, heq⟩ | ⟨hd, heq⟩ := hostWriteReg_cases s v (s.regOf a)
    · exact heq ▸ ⟨rfl, rfl⟩
    · rw [heq]
      obtain hw | hw | hw := writeReg_of_busy s v _ hb hd <;> rw [hw] <;> exact ⟨rfl, rfl⟩

theorem releaseReset_of_running {s : State} (hr : s.rstN = true) : s.releaseReset = s := by
  rw [State.releaseReset, ← hr]

/-- A step outside reset with a command pending ends the command, as the engine's turn does, or
takes the next event and changes the report at most. -/
theorem step_of_busy {s t : State} (hr : s.rstN = true) (hb : s.busy = true)
    (h : step s = .next t) :
    t.busy = false ∨
      (s.nextEvent ≠ .engine ∧ t.events = s.events.tail ∧ s.DiffersInReport t) := by
  obtain ⟨a, he, rfl⟩ | ⟨a, v, he, hw⟩ | ⟨-, hturn⟩ | ⟨-, rfl⟩ | ⟨he, rfl⟩ := step_cases s t h
  · exact .inr ⟨he ▸ nofun, rfl, rfl⟩
  · exact (busWrite_of_busy (s := s.takeEvent) hb hw).imp_right fun ⟨hframe, hevents⟩ =>
      ⟨he ▸ nofun, hevents, hframe⟩
  · exact .inl (not_busy_of_engineTurn (s := s.takeEvent) hr hb hturn)
  · exact .inl rfl
  · rw [releaseReset_of_running (s := s.takeEvent) hr]
    exact .inr ⟨he ▸ nofun, rfl, rfl⟩

/-- Settles O57: the command has not ended, so the step changed the report at most. -/
theorem operandsAreStableWhileBusy : Obligations.OperandsAreStableWhileBusy := by
  intro s t h hr hb ht
  obtain hend | ⟨-, -, hframe⟩ := step_of_busy hr hb h
  · exact absurd (hend.symm.trans ht) nofun
  · exact hframe

theorem runSteps_succ_of_step {s t : State} (h : step s = .next t) (k : Nat) :
    runSteps (k + 1) s = runSteps k t := by
  rw [runSteps, h]

theorem runSteps_one_of_step {s t : State} (h : step s = .next t) : runSteps 1 s = .next t :=
  runSteps_succ_of_step h 0

/-- Settles O10: by induction on the events still to come, each step taking one of them off; when
none is left it is the engine's turn. -/
theorem pendingCommandEventuallyEnds : Obligations.PendingCommandEventuallyEnds := by
  intro s hr hb
  induction hes : s.events generalizing s with
  | nil =>
    have he : s.nextEvent = .engine := congrArg (List.headD · _) hes
    obtain ⟨t, ht⟩ := everyStepCompletes s
    obtain hend | ⟨hne, -⟩ := step_of_busy hr hb ht
    · exact ⟨1, t, Nat.le_refl 1, runSteps_one_of_step ht, hend⟩
    · exact absurd he hne
  | cons e es ih =>
    obtain ⟨t, ht⟩ := everyStepCompletes s
    obtain hend | ⟨-, hevents, hframe⟩ := step_of_busy hr hb ht
    · exact ⟨1, t, Nat.le_add_left 1 _, runSteps_one_of_step ht, hend⟩
    · have hrt : t.rstN = true := (congrArg State.rstN hframe).trans hr
      have hbt : t.busy = true := (congrArg State.busy hframe).trans hb
      have hest : t.events = es := hevents.trans (congrArg List.tail hes)
      obtain ⟨k, u, hk, hrun, hend⟩ := ih t hrt hbt hest
      exact ⟨k + 1, u, Nat.succ_le_succ hk, (runSteps_succ_of_step ht k).trans hrun, hend⟩

/-! ### An open session keeps its key (R347) -/

/-- `t` has the AES key and the key configuration of `s`. -/
def State.KeepsAesKey (s t : State) : Prop :=
  t.akey = s.akey ∧ t.aklen = s.aklen ∧ t.xkv = s.xkv

theorem State.KeepsAesKey.refl (s : State) : s.KeepsAesKey s := ⟨rfl, rfl, rfl⟩

/-- Within a session KEYCFG and AKEY drop every write, and no other register holds the key. -/
theorem keepsAesKey_hostWriteReg {s : State} (ho : s.sessionOpen = true) (v : Word) (r : Reg) :
    s.KeepsAesKey (hostWriteReg s v r) := by
  obtain ⟨-, heq⟩ | ⟨hd, heq⟩ := hostWriteReg_cases s v r <;> rw [heq]
  · exact .refl s
  · cases r with
    | keycfg | akey j => exact absurd (ho.symm.trans (Bool.or_eq_false_iff.mp hd).2) nofun
    | _ => exact .refl s

/-- A session does not outlive SRESET, and no other command writes the key. -/
theorem keepsAesKey_of_exec {i : Instr} {s t : State} (ht : t.sessionOpen = true)
    (h : exec i s = .next t) : s.KeepsAesKey t := by
  obtain rfl | hi := eq_or_ne i .sreset
  · obtain rfl := execSreset_cases s t h
    exact nomatch ht
  · have hpart := exec_hostPart hi h
    exact ⟨congrArg HostPart.akey hpart, congrArg HostPart.aklen hpart,
      congrArg HostPart.xkv hpart⟩

theorem keepsAesKey_of_engineTurn {s t : State} (ht : t.sessionOpen = true)
    (h : engineTurn s = .next t) : s.KeepsAesKey t := by
  obtain ⟨-, rfl⟩ | ⟨-, w, -, hw⟩ := engineTurn_cases s t h
  · exact .refl t
  · obtain ⟨i, -, hi⟩ | ⟨-, -, rfl⟩ := runWord_cases w s t hw
    · exact keepsAesKey_of_exec ht hi
    · exact .refl s

theorem keepsAesKey_of_busWrite {a : BitVec 10} {v : Word} {s t : State}
    (hs : s.sessionOpen = true) (ht : t.sessionOpen = true) (h : busWrite a v s = .next t) :
    s.KeepsAesKey t := by
  obtain ⟨-, rfl⟩ | ⟨-, -, -, rfl⟩ | ⟨-, -, rfl⟩ := busWrite_cases a v s t h
  · exact .refl t
  · exact nomatch ht
  · exact keepsAesKey_hostWriteReg hs v _

/-- A step from a session into a session keeps the key: a reset closes the session. -/
theorem keepsAesKey_of_step {s t : State} (hs : s.sessionOpen = true) (ht : t.sessionOpen = true)
    (h : step s = .next t) : s.takeEvent.KeepsAesKey t := by
  obtain ⟨a, -, rfl⟩ | ⟨a, v, -, hw⟩ | ⟨-, hturn⟩ | ⟨-, rfl⟩ | ⟨-, rfl⟩ := step_cases s t h
  · exact .refl s
  · exact keepsAesKey_of_busWrite hs ht hw
  · exact keepsAesKey_of_engineTurn ht hturn
  · exact nomatch ht
  · exact .refl s

/-- Settles O56: taking the event off the list keeps the key, and so does the event. -/
theorem sessionFreezesTheAesKey : Obligations.SessionFreezesTheAesKey :=
  fun s t h hs ht => keepsAesKey_of_step ((sessionOpen_iff s).mpr hs) ((sessionOpen_iff t).mpr ht) h

end Sys2Proof.Machine
end
